-- ==== Sys2Proof/Word.lean ====
section
/-! DEFINITION. The word types of the HTG12G0 (spec/00_scope.md R7, R9): every value is an unsigned bit vector of a
stated width. Nothing but names and widths stands here. -/

namespace Sys2Proof

/-- The data word: ACC, a working register, one data-memory location, a port (R7). -/
abbrev Nibble := BitVec 4

/-- One byte of program memory, and the timer's eight bits (R7). -/
abbrev Byte := BitVec 8

/-- A data-memory address, the value of a register pair (R13, R41). -/
abbrev DataAddr := BitVec 8

/-- A program address inside one bank, the width of PC (R14). -/
abbrev CodeAddr := BitVec 12

/-- The address operand of a conditional jump (R68). -/
abbrev JumpAddr := BitVec 11

end Sys2Proof
end

