-- ==== Sys2Proof/Config.lean ====
section
/-! DEFINITION. What an implementation fixes: the mask options of spec/00_scope.md R5, the parameters of R8, and the
free values (the opaque constant `Config.free`, which no proof can evaluate). -/

namespace Sys2Proof

/-- `PAIR_IMM_ORDER` (R65, D6): which byte of `MOV R1R0,XXH` and `MOV R3R2,XXH` carries the low nibble. -/
inductive PairOrder where
  | lowFirst | highFirst
  deriving DecidableEq, Repr

/-- `INT_LATENCY` (R215, D14): an acceptable interrupt is taken at the first boundary, or further instructions may run
first. -/
inductive IntLatency where
  | zero | any
  deriving DecidableEq, Repr

/-- `COND_JUMP_PC11` (R168, D9): bit 11 of a conditional jump's target comes from the address after the jump, or from
the jump's own address. -/
inductive JumpPc11 where
  | next | own
  deriving DecidableEq, Repr

/-- `PA_TYPE` (R5, R237): the output stage of a PA pin. -/
inductive PinType where
  | cmos | openDrain
  deriving DecidableEq, Repr

/-- The configuration of one chip and of one reading of the spec (R5, R8). Port options hold one bit per pin, bit `k`
for pin `k`. -/
structure Config where
  /-- `PULLHIGH[PS]`: 1 where the pin has its pull-high resistor. -/
  pullHighPs : Nibble
  /-- `PULLHIGH[PP]`. -/
  pullHighPp : Nibble
  /-- `WAKE[PS]`: 1 where the pin can wake the chip from HALT mode. -/
  wakePs : Nibble
  /-- `WAKE[PP]`. -/
  wakePp : Nibble
  /-- `PA_TYPE[0]`. -/
  pa0Type : PinType
  /-- `PA_TYPE[1]`. -/
  pa1Type : PinType
  /-- `TIMER_DIV`, 0 to 13; 6 is excluded by `Config.wf`. -/
  timerDiv : Fin 14
  /-- `SOUND_DIV`, 0 to 5. -/
  soundDiv : Fin 6
  /-- `RTC_DIV`, 0 to 7. -/
  rtcDiv : Fin 8
  pairOrder : PairOrder
  admitUnsourced : Bool
  intLatency : IntLatency
  jumpPc11 : JumpPc11
  deriving DecidableEq, Repr

/-- `TIMER_DIV` has 13 values: "the sixth stage is reserved for internal use" (R5). -/
def Config.wf (c : Config) : Bool := c.timerDiv != 6

/-- The defaults of R8; the mask options, for which the spec gives no default, are a DESIGN CHOICE (log entry 6). -/
def Config.default : Config where
  pullHighPs := 0xF
  pullHighPp := 0xF
  wakePs := 0xF
  wakePp := 0xF
  pa0Type := .cmos
  pa1Type := .cmos
  timerDiv := 0
  soundDiv := 0
  rtcDiv := 0
  pairOrder := .lowFirst
  admitUnsourced := true
  intLatency := .zero
  jumpPc11 := .next

/-- What a free value stands for. -/
inductive FreeSlot where
  | acc | cf | r0 | r1 | r2 | r3 | r4 | stackPc | stackCf | timer | sndCh | psPins | ppPins | bz | bzBar
  /-- Whether the CPU's own move in a round puts an interrupt off under `INT_LATENCY = any` (R215, R240). -/
  | deferInterrupt
  /-- One data-memory location. -/
  | ram (a : Nat)
  deriving DecidableEq, Repr

/-- FREE VALUES (the spec's `any(N)`, R9): the value of width `w` that the draw number `draw` gives for `slot`. It has no
body: nothing can be proved of its value (log entry 22). -/
opaque Config.free (w draw : Nat) (slot : FreeSlot) : BitVec w

end Sys2Proof
end

