-- ==== Sys2Proof/Syntax.lean ====
section
/-! DEFINITION. The instructions of the HTG12G0: one constructor of `Instr` per row of spec/opcode_table.json, in the
table's order (spec/30_encoding.md R61, R70, R76). In the names, `M10` is the data-memory operand `[R1R0]`, `M32` is
`[R3R2]`, `Imm` an immediate; the destination comes first, as the source writes it (R74). -/

namespace Sys2Proof

/-- The five working registers R0 to R4 (R12). -/
inductive Reg where
  | r0 | r1 | r2 | r3 | r4
  deriving DecidableEq, Repr

/-- One constructor per row of spec/opcode_table.json; a field holds the operand the encoding carries. -/
inductive Instr where
  /-- `RR A` (R142). -/
  | rrA
  /-- `RL A` (R140). -/
  | rlA
  /-- `RRC A` (R143). -/
  | rrcA
  /-- `RLC A` (R141). -/
  | rlcA
  /-- `MOV A,[R1R0]` (R132). -/
  | movAM10
  /-- `MOV [R1R0],A` (R134). -/
  | movM10A
  /-- `MOV A,[R3R2]` (R133). -/
  | movAM32
  /-- `MOV [R3R2],A` (R135). -/
  | movM32A
  /-- `ADC A,[R1R0]` (R101). -/
  | adcAM10
  /-- `ADD A,[R1R0]` (R100). -/
  | addAM10
  /-- `SBC A,[R1R0]` (R103). -/
  | sbcAM10
  /-- `SUB A,[R1R0]` (R102). -/
  | subAM10
  /-- `INC [R1R0]` (R122). -/
  | incM10
  /-- `DEC [R1R0]` (R126). -/
  | decM10
  /-- `INC [R3R2]` (R123). -/
  | incM32
  /-- `DEC [R3R2]` (R127). -/
  | decM32
  /-- `INC R0` (R121). -/
  | incR0
  /-- `DEC R0` (R125). -/
  | decR0
  /-- `INC R1` (R121). -/
  | incR1
  /-- `DEC R1` (R125). -/
  | decR1
  /-- `INC R2` (R121). -/
  | incR2
  /-- `DEC R2` (R125). -/
  | decR2
  /-- `INC R3` (R121). -/
  | incR3
  /-- `DEC R3` (R125). -/
  | decR3
  /-- `INC R4` (R121). -/
  | incR4
  /-- `DEC R4` (R125). -/
  | decR4
  /-- `AND A,[R1R0]` (R110). -/
  | andAM10
  /-- `XOR A,[R1R0]` (R112). -/
  | xorAM10
  /-- `OR A,[R1R0]` (R111). -/
  | orAM10
  /-- `AND [R1R0],A` (R113). -/
  | andM10A
  /-- `XOR [R1R0],A` (R115). -/
  | xorM10A
  /-- `OR [R1R0],A` (R114). -/
  | orM10A
  /-- `MOV R0,A` (R131). -/
  | movR0A
  /-- `MOV A,R0` (R130). -/
  | movAR0
  /-- `MOV R1,A` (R131). -/
  | movR1A
  /-- `MOV A,R1` (R130). -/
  | movAR1
  /-- `MOV R2,A` (R131). -/
  | movR2A
  /-- `MOV A,R2` (R130). -/
  | movAR2
  /-- `MOV R3,A` (R131). -/
  | movR3A
  /-- `MOV A,R3` (R130). -/
  | movAR3
  /-- `MOV R4,A` (R131). -/
  | movR4A
  /-- `MOV A,R4` (R130). -/
  | movAR4
  /-- `CLC` (R173). -/
  | clc
  /-- `STC` (R174). -/
  | stc
  /-- `EI` (R175). -/
  | ei
  /-- `DI` (R176). -/
  | di
  /-- `RET` (R171). -/
  | ret
  /-- `RETI` (R172). -/
  | reti
  /-- `OUT PA,A` (R151). -/
  | outPaA
  /-- `INC A` (R120). -/
  | incA
  /-- `IN A,PS` (R150). -/
  | inAPs
  /-- `IN A,PP` (R150). -/
  | inAPp
  /-- `DAA` (R106). -/
  | daa
  /-- `HALT` (R200). -/
  | halt
  /-- `TIMER ON` (R181). -/
  | timerOn
  /-- `TIMER OFF` (R182). -/
  | timerOff
  /-- `MOV A,TMRL` (R183). -/
  | movATmrl
  /-- `MOV A,TMRH` (R184). -/
  | movATmrh
  /-- `MOV TMRL,A` (R185). -/
  | movTmrlA
  /-- `MOV TMRH,A` (R186). -/
  | movTmrhA
  /-- `NOP` (R177). -/
  | nop
  /-- `DEC A` (R124). -/
  | decA
  /-- `ADD A,XH` (R104). -/
  | addAImm (d : Nibble)
  /-- `SUB A,XH` (R105). -/
  | subAImm (d : Nibble)
  /-- `AND A,XH` (R116). -/
  | andAImm (d : Nibble)
  /-- `XOR A,XH` (R118). -/
  | xorAImm (d : Nibble)
  /-- `OR A,XH` (R117). -/
  | orAImm (d : Nibble)
  /-- `SOUND n` (R195). -/
  | soundImm (n : Nibble)
  /-- `MOV R4,XH` (R139). -/
  | movR4Imm (d : Nibble)
  /-- `TIMER XXH` (R180). -/
  | timerImm (d : Byte)
  /-- `SOUND ONE` (R197). -/
  | soundOne
  /-- `SOUND LOOP` (R198). -/
  | soundLoop
  /-- `SOUND OFF` (R199). -/
  | soundOff
  /-- `SOUND A` (R196). -/
  | soundA
  /-- `READ R4A` (R187). -/
  | readR4A
  /-- `READF R4A` (R189). -/
  | readfR4A
  /-- `READ MR0A` (R188). -/
  | readMr0A
  /-- `READF MR0A` (R190). -/
  | readfMr0A
  /-- `MOV R1R0,XXH` (R137). -/
  | movR1R0Imm (d : Byte)
  /-- `MOV R3R2,XXH` (R138). -/
  | movR3R2Imm (d : Byte)
  /-- `MOV A,XH` (R136). -/
  | movAImm (d : Nibble)
  /-- `JA0` (R164). -/
  | ja0 (addr : JumpAddr)
  /-- `JA1` (R164). -/
  | ja1 (addr : JumpAddr)
  /-- `JA2` (R164). -/
  | ja2 (addr : JumpAddr)
  /-- `JA3` (R164). -/
  | ja3 (addr : JumpAddr)
  /-- `JNZ R0` (R167). -/
  | jnzR0 (addr : JumpAddr)
  /-- `JNZ R1` (R167). -/
  | jnzR1 (addr : JumpAddr)
  /-- `JZ A` (R165). -/
  | jzA (addr : JumpAddr)
  /-- `JNZ A` (R166). -/
  | jnzA (addr : JumpAddr)
  /-- `JC` (R161). -/
  | jc (addr : JumpAddr)
  /-- `JNC` (R162). -/
  | jnc (addr : JumpAddr)
  /-- `JTMR` (R163). -/
  | jtmr (addr : JumpAddr)
  /-- `JNZ R4` (R167). -/
  | jnzR4 (addr : JumpAddr)
  /-- `JMP` (R160). -/
  | jmp (addr : CodeAddr)
  /-- `CALL` (R170). -/
  | call (addr : CodeAddr)
  deriving DecidableEq, Repr

end Sys2Proof
end

