-- ==== Sys2Proof/WellFormed.lean ====
section
/-! DEFINITION. Which instructions a configuration admits. Operand widths are in the types of `Instr` (R61 to R69), so
the one check left is that an instruction without a sourced encoding needs `ADMIT_UNSOURCED` (R73). -/

namespace Sys2Proof

/-- The thirteen instructions whose machine codes the source has lost (R73). -/
def Instr.unsourced : Instr → Bool
  | .subAM10 | .xorAM10 | .xorM10A | .stc | .timerOn | .timerOff | .subAImm _ | .xorAImm _ | .soundImm _
  | .timerImm _ | .soundOne | .soundLoop | .soundOff => true
  | .rrA | .rlA | .rrcA | .rlcA | .movAM10 | .movM10A | .movAM32 | .movM32A | .adcAM10 | .addAM10
  | .sbcAM10 | .incM10 | .decM10 | .incM32 | .decM32 | .incR0 | .decR0 | .incR1 | .decR1 | .incR2 | .decR2
  | .incR3 | .decR3 | .incR4 | .decR4 | .andAM10 | .orAM10 | .andM10A | .orM10A | .movR0A | .movAR0
  | .movR1A | .movAR1 | .movR2A | .movAR2 | .movR3A | .movAR3 | .movR4A | .movAR4 | .clc | .ei | .di | .ret
  | .reti | .outPaA | .incA | .inAPs | .inAPp | .daa | .halt | .movATmrl | .movATmrh | .movTmrlA
  | .movTmrhA | .nop | .decA | .addAImm _ | .andAImm _ | .orAImm _ | .movR4Imm _ | .soundA | .readR4A
  | .readfR4A | .readMr0A | .readfMr0A | .movR1R0Imm _ | .movR3R2Imm _ | .movAImm _ | .ja0 _ | .ja1 _
  | .ja2 _ | .ja3 _ | .jnzR0 _ | .jnzR1 _ | .jzA _ | .jnzA _ | .jc _ | .jnc _ | .jtmr _ | .jnzR4 _ | .jmp _
  | .call _ => false

/-- An instruction of a configuration: its encoding is in the source, or unsourced encodings are admitted (R73, D35). -/
def Instr.wellFormed (c : Config) (i : Instr) : Bool := c.admitUnsourced || !i.unsourced

end Sys2Proof
end

