-- ==== Sys2Proof/Decode.lean ====
section
/-! DEFINITION. Decoding, total on any bytes and rejecting by name (spec/30_encoding.md R60 to R73, R77), and after it the
encoder, written from the same tables. `b0` and `b1` are the first and second byte of an instruction; a one-byte
instruction does not look at `b1`. -/

namespace Sys2Proof

/-- The high nibble of a byte, `b[7:4]`. -/
def hiNibble (b : Byte) : Nibble := b.extractLsb' 4 4

/-- The low nibble of a byte, `b[3:0]`. -/
def loNibble (b : Byte) : Nibble := b.extractLsb' 0 4

/-- The printed `0 0 0 0` in bits 7:4 of a second byte (R64, R65). -/
def zeroNibble : Nibble := 0

/-- Why two bytes are no instruction. -/
inductive DecodeError where
  /-- The first byte selects no instruction (R71). -/
  | illegalFirst (b0 : Byte)
  /-- The second byte is not one the first byte's format allows (R72). -/
  | malformedSecond (b0 b1 : Byte)
  /-- The encoding of this instruction is not in the source and `ADMIT_UNSOURCED` is false (R73). -/
  | unsourced (i : Instr)
  deriving DecidableEq, Repr

/-- What two bytes decode to. -/
inductive Decoded where
  | ok (i : Instr)
  | bad (e : DecodeError)
  deriving DecidableEq, Repr

/-- An unsourced encoding counts only under `ADMIT_UNSOURCED` (R73, D35). -/
def ifAdmitted (c : Config) (i : Instr) : Decoded :=
  if c.admitUnsourced then .ok i else .bad (.unsourced i)

/-- Formats `IMM4` and `PAIR8`: bits 7:4 of the second byte must be 0000 (R72). A refusal of the first byte comes
first. -/
def Decoded.checked (d : Decoded) (b0 b1 : Byte) : Decoded :=
  match d with
  | .ok i => if hiNibble b1 = 0 then .ok i else .bad (.malformedSecond b0 b1)
  | .bad e => .bad e

/-- `PAIR8`: the 8-bit immediate from the two bytes' low nibbles (R65). -/
def pairImm (c : Config) (b0 b1 : Byte) : Byte :=
  match c.pairOrder with
  | .lowFirst => loNibble b1 ++ loNibble b0
  | .highFirst => loNibble b0 ++ loNibble b1

/-- `ADDR12`: `addr[11:8] = b0[3:0]`, `addr[7:0] = b1` (R67). -/
def addr12Of (b0 b1 : Byte) : CodeAddr := loNibble b0 ++ b1

/-- `ADDR11`: `addr[10:8] = b0[2:0]`, `addr[7:0] = b1` (R68). -/
def addr11Of (b0 b1 : Byte) : JumpAddr := b0.extractLsb' 0 3 ++ b1

/-- The opcode map's first bytes 00H to 0FH (R70). -/
def decodeRow0 (c : Config) (lo : Nibble) : Decoded :=
  match lo.toNat with
  | 0 => .ok .rrA
  | 1 => .ok .rlA
  | 2 => .ok .rrcA
  | 3 => .ok .rlcA
  | 4 => .ok .movAM10
  | 5 => .ok .movM10A
  | 6 => .ok .movAM32
  | 7 => .ok .movM32A
  | 8 => .ok .adcAM10
  | 9 => .ok .addAM10
  | 10 => .ok .sbcAM10
  | 11 => ifAdmitted c .subAM10
  | 12 => .ok .incM10
  | 13 => .ok .decM10
  | 14 => .ok .incM32
  | _ => .ok .decM32

/-- The opcode map's first bytes 10H to 1FH (R70). -/
def decodeRow1 (c : Config) (lo : Nibble) : Decoded :=
  match lo.toNat with
  | 0 => .ok .incR0
  | 1 => .ok .decR0
  | 2 => .ok .incR1
  | 3 => .ok .decR1
  | 4 => .ok .incR2
  | 5 => .ok .decR2
  | 6 => .ok .incR3
  | 7 => .ok .decR3
  | 8 => .ok .incR4
  | 9 => .ok .decR4
  | 10 => .ok .andAM10
  | 11 => ifAdmitted c .xorAM10
  | 12 => .ok .orAM10
  | 13 => .ok .andM10A
  | 14 => ifAdmitted c .xorM10A
  | _ => .ok .orM10A

/-- The opcode map's first bytes 20H to 2FH (R70). -/
def decodeRow2 (c : Config) (lo : Nibble) : Decoded :=
  match lo.toNat with
  | 0 => .ok .movR0A
  | 1 => .ok .movAR0
  | 2 => .ok .movR1A
  | 3 => .ok .movAR1
  | 4 => .ok .movR2A
  | 5 => .ok .movAR2
  | 6 => .ok .movR3A
  | 7 => .ok .movAR3
  | 8 => .ok .movR4A
  | 9 => .ok .movAR4
  | 10 => .ok .clc
  | 11 => ifAdmitted c .stc
  | 12 => .ok .ei
  | 13 => .ok .di
  | 14 => .ok .ret
  | _ => .ok .reti

/-- The opcode map's first bytes 30H to 3FH (R70). -/
def decodeRow3 (c : Config) (b0 b1 : Byte) : Decoded :=
  match (loNibble b0).toNat with
  | 0 => .ok .outPaA
  | 1 => .ok .incA
  | 2 => .bad (.illegalFirst b0)
  | 3 => .ok .inAPs
  | 4 => .ok .inAPp
  | 5 => .bad (.illegalFirst b0)
  | 6 => .ok .daa
  | 7 => if b1 = 0x3E then .ok .halt else .bad (.malformedSecond b0 b1)
  | 8 => ifAdmitted c .timerOn
  | 9 => ifAdmitted c .timerOff
  | 10 => .ok .movATmrl
  | 11 => .ok .movATmrh
  | 12 => .ok .movTmrlA
  | 13 => .ok .movTmrhA
  | 14 => .ok .nop
  | _ => .ok .decA

/-- The opcode map's first bytes 40H to 4FH (R70). -/
def decodeRow4 (c : Config) (b0 b1 : Byte) : Decoded :=
  match (loNibble b0).toNat with
  | 0 => (Decoded.ok (.addAImm (loNibble b1))).checked b0 b1
  | 1 => (ifAdmitted c (.subAImm (loNibble b1))).checked b0 b1
  | 2 => (Decoded.ok (.andAImm (loNibble b1))).checked b0 b1
  | 3 => (ifAdmitted c (.xorAImm (loNibble b1))).checked b0 b1
  | 4 => (Decoded.ok (.orAImm (loNibble b1))).checked b0 b1
  | 5 => (ifAdmitted c (.soundImm (loNibble b1))).checked b0 b1
  | 6 => (Decoded.ok (.movR4Imm (loNibble b1))).checked b0 b1
  | 7 => ifAdmitted c (.timerImm b1)
  | 8 => ifAdmitted c .soundOne
  | 9 => ifAdmitted c .soundLoop
  | 10 => ifAdmitted c .soundOff
  | 11 => .ok .soundA
  | 12 => .ok .readR4A
  | 13 => .ok .readfR4A
  | 14 => .ok .readMr0A
  | _ => .ok .readfMr0A

/-- The conditional jumps, first bytes 80H to DFH, by bits 7:3 of the first byte (R68, R69, R70). -/
def decodeJump (b0 b1 : Byte) : Instr :=
  match (b0.extractLsb' 3 5).toNat with
  | 16 => .ja0 (addr11Of b0 b1)
  | 17 => .ja1 (addr11Of b0 b1)
  | 18 => .ja2 (addr11Of b0 b1)
  | 19 => .ja3 (addr11Of b0 b1)
  | 20 => .jnzR0 (addr11Of b0 b1)
  | 21 => .jnzR1 (addr11Of b0 b1)
  | 22 => .jzA (addr11Of b0 b1)
  | 23 => .jnzA (addr11Of b0 b1)
  | 24 => .jc (addr11Of b0 b1)
  | 25 => .jnc (addr11Of b0 b1)
  | 26 => .jtmr (addr11Of b0 b1)
  | _ => .jnzR4 (addr11Of b0 b1)

/-- Decoding, by the high nibble of the first byte (R70, R77). -/
def decode (c : Config) (b0 b1 : Byte) : Decoded :=
  match (hiNibble b0).toNat with
  | 0 => decodeRow0 c (loNibble b0)
  | 1 => decodeRow1 c (loNibble b0)
  | 2 => decodeRow2 c (loNibble b0)
  | 3 => decodeRow3 c b0 b1
  | 4 => decodeRow4 c b0 b1
  | 5 => (Decoded.ok (.movR1R0Imm (pairImm c b0 b1))).checked b0 b1
  | 6 => (Decoded.ok (.movR3R2Imm (pairImm c b0 b1))).checked b0 b1
  | 7 => .ok (.movAImm (loNibble b0))
  | 14 => .ok (.jmp (addr12Of b0 b1))
  | 15 => .ok (.call (addr12Of b0 b1))
  | _ => .ok (decodeJump b0 b1)

/-- An instruction's length in bytes (R60, R61). -/
def Instr.length : Instr → Nat
  | .halt | .addAImm _ | .subAImm _ | .andAImm _ | .xorAImm _ | .orAImm _ | .soundImm _ | .movR4Imm _
  | .timerImm _ | .movR1R0Imm _ | .movR3R2Imm _ | .ja0 _ | .ja1 _ | .ja2 _ | .ja3 _ | .jnzR0 _ | .jnzR1 _
  | .jzA _ | .jnzA _ | .jc _ | .jnc _ | .jtmr _ | .jnzR4 _ | .jmp _ | .call _ => 2
  | .rrA | .rlA | .rrcA | .rlcA | .movAM10 | .movM10A | .movAM32 | .movM32A | .adcAM10 | .addAM10
  | .sbcAM10 | .subAM10 | .incM10 | .decM10 | .incM32 | .decM32 | .incR0 | .decR0 | .incR1 | .decR1
  | .incR2 | .decR2 | .incR3 | .decR3 | .incR4 | .decR4 | .andAM10 | .xorAM10 | .orAM10 | .andM10A
  | .xorM10A | .orM10A | .movR0A | .movAR0 | .movR1A | .movAR1 | .movR2A | .movAR2 | .movR3A | .movAR3
  | .movR4A | .movAR4 | .clc | .stc | .ei | .di | .ret | .reti | .outPaA | .incA | .inAPs | .inAPp | .daa
  | .timerOn | .timerOff | .movATmrl | .movATmrh | .movTmrlA | .movTmrhA | .nop | .decA | .soundOne
  | .soundLoop | .soundOff | .soundA | .readR4A | .readfR4A | .readMr0A | .readfMr0A | .movAImm _ => 1

/-- The first instruction of a stream of bytes and the bytes after it; nothing where the bytes are no instruction or
end inside one. -/
def decodeStream (c : Config) : List Byte → Option (Instr × List Byte)
  | [] => none
  | b0 :: rest =>
    match decode c b0 (rest.headD 0) with
    | .bad _ => none
    | .ok i =>
      if i.length = 1 then some (i, rest)
      else match rest with
        | [] => none
        | _ :: rest' => some (i, rest')

/-- `PAIR8`, opcode nibble `op` (R65). -/
def pairBytes (c : Config) (op : Nibble) (d : Byte) : List Byte :=
  match c.pairOrder with
  | .lowFirst => [op ++ loNibble d, zeroNibble ++ hiNibble d]
  | .highFirst => [op ++ hiNibble d, zeroNibble ++ loNibble d]

/-- `ADDR11`, opcode bits `op` (R68). -/
def addr11Bytes (op : BitVec 5) (a : JumpAddr) : List Byte :=
  [op ++ a.extractLsb' 8 3, a.extractLsb' 0 8]

/-- `ADDR12`, opcode nibble `op` (R67). -/
def addr12Bytes (op : Nibble) (a : CodeAddr) : List Byte :=
  [op ++ a.extractLsb' 8 4, a.extractLsb' 0 8]

/-- The bytes of a well-formed instruction, the first at the lower address (R46, R61, R70, R73). -/
def encode (c : Config) : Instr → List Byte
  | .rrA => [0x00]
  | .rlA => [0x01]
  | .rrcA => [0x02]
  | .rlcA => [0x03]
  | .movAM10 => [0x04]
  | .movM10A => [0x05]
  | .movAM32 => [0x06]
  | .movM32A => [0x07]
  | .adcAM10 => [0x08]
  | .addAM10 => [0x09]
  | .sbcAM10 => [0x0A]
  | .subAM10 => [0x0B]
  | .incM10 => [0x0C]
  | .decM10 => [0x0D]
  | .incM32 => [0x0E]
  | .decM32 => [0x0F]
  | .incR0 => [0x10]
  | .decR0 => [0x11]
  | .incR1 => [0x12]
  | .decR1 => [0x13]
  | .incR2 => [0x14]
  | .decR2 => [0x15]
  | .incR3 => [0x16]
  | .decR3 => [0x17]
  | .incR4 => [0x18]
  | .decR4 => [0x19]
  | .andAM10 => [0x1A]
  | .xorAM10 => [0x1B]
  | .orAM10 => [0x1C]
  | .andM10A => [0x1D]
  | .xorM10A => [0x1E]
  | .orM10A => [0x1F]
  | .movR0A => [0x20]
  | .movAR0 => [0x21]
  | .movR1A => [0x22]
  | .movAR1 => [0x23]
  | .movR2A => [0x24]
  | .movAR2 => [0x25]
  | .movR3A => [0x26]
  | .movAR3 => [0x27]
  | .movR4A => [0x28]
  | .movAR4 => [0x29]
  | .clc => [0x2A]
  | .stc => [0x2B]
  | .ei => [0x2C]
  | .di => [0x2D]
  | .ret => [0x2E]
  | .reti => [0x2F]
  | .outPaA => [0x30]
  | .incA => [0x31]
  | .inAPs => [0x33]
  | .inAPp => [0x34]
  | .daa => [0x36]
  | .halt => [0x37, 0x3E]
  | .timerOn => [0x38]
  | .timerOff => [0x39]
  | .movATmrl => [0x3A]
  | .movATmrh => [0x3B]
  | .movTmrlA => [0x3C]
  | .movTmrhA => [0x3D]
  | .nop => [0x3E]
  | .decA => [0x3F]
  | .addAImm d => [0x40, zeroNibble ++ d]
  | .subAImm d => [0x41, zeroNibble ++ d]
  | .andAImm d => [0x42, zeroNibble ++ d]
  | .xorAImm d => [0x43, zeroNibble ++ d]
  | .orAImm d => [0x44, zeroNibble ++ d]
  | .soundImm n => [0x45, zeroNibble ++ n]
  | .movR4Imm d => [0x46, zeroNibble ++ d]
  | .timerImm d => [0x47, d]
  | .soundOne => [0x48]
  | .soundLoop => [0x49]
  | .soundOff => [0x4A]
  | .soundA => [0x4B]
  | .readR4A => [0x4C]
  | .readfR4A => [0x4D]
  | .readMr0A => [0x4E]
  | .readfMr0A => [0x4F]
  | .movR1R0Imm d => pairBytes c 0b0101 d
  | .movR3R2Imm d => pairBytes c 0b0110 d
  | .movAImm d => [0b0111#4 ++ d]
  | .ja0 addr => addr11Bytes 0b10000 addr
  | .ja1 addr => addr11Bytes 0b10001 addr
  | .ja2 addr => addr11Bytes 0b10010 addr
  | .ja3 addr => addr11Bytes 0b10011 addr
  | .jnzR0 addr => addr11Bytes 0b10100 addr
  | .jnzR1 addr => addr11Bytes 0b10101 addr
  | .jzA addr => addr11Bytes 0b10110 addr
  | .jnzA addr => addr11Bytes 0b10111 addr
  | .jc addr => addr11Bytes 0b11000 addr
  | .jnc addr => addr11Bytes 0b11001 addr
  | .jtmr addr => addr11Bytes 0b11010 addr
  | .jnzR4 addr => addr11Bytes 0b11011 addr
  | .jmp addr => addr12Bytes 0b1110 addr
  | .call addr => addr12Bytes 0b1111 addr

/-- The two bytes of an instruction whose bits spec/opcode_table.json numbers as `w`: a two-byte instruction is a 16-bit
number with the first byte in bits 15 to 8 (R46, D32); a one-byte one is followed by a zero byte (log entry 31). -/
def tableBytes (nbits w : Nat) : Byte × Byte :=
  if nbits ≤ 8 then (BitVec.ofNat 8 w, 0) else (BitVec.ofNat 8 (w / 256), BitVec.ofNat 8 w)

/-- The instruction read from the table's number `w` of `nbits` bits, under the default configuration. -/
def decodeTableWord (nbits w : Nat) : Option Instr :=
  match decode Config.default (tableBytes nbits w).1 (tableBytes nbits w).2 with
  | .ok i => some i
  | .bad _ => none

end Sys2Proof
end

