-- ==== Sys2Proof/Machine/World.lean ====
section
/-! DEFINITION. The outside world as data: what drives the input pins, the moves of the agents (spec/60_exceptions.md
R240), and the free values of the interleaving. -/

namespace Sys2Proof.Machine

/-- What the outside world does to one input pin (R236). -/
inductive Drive where
  | low | high | unconnected
  deriving DecidableEq, Repr

/-- The four pins of an input port, PS or PP (R30). -/
structure Pins where
  pin0 : Drive
  pin1 : Drive
  pin2 : Drive
  pin3 : Drive
  deriving DecidableEq, Repr

/-- One move of one of the six agents (R240). -/
inductive Move where
  /-- The CPU: an interrupt entry or an instruction. With `deferInterrupt`, a chip whose `INT_LATENCY` is `any` runs an
  instruction although an interrupt could be taken (R215). -/
  | cpu (deferInterrupt : Bool)
  /-- One tick of the timer clock (R225). -/
  | timerTick
  /-- One period of the RTC output (R228). -/
  | rtcEvent
  /-- The playing sound reaches its end (R233). -/
  | soundEnd
  /-- The LCD driver reads the display memory (R234). -/
  | lcdScan
  /-- The environment changes what drives the pins of PS and PP (R232, R236). -/
  | pins (ps pp : Pins)
  /-- The environment drives the RES pin, active low (R250). -/
  | resPin (low : Bool)
  deriving DecidableEq, Repr

/-- Nothing is connected to the port. -/
def Pins.allUnconnected : Pins := ⟨.unconnected, .unconnected, .unconnected, .unconnected⟩

end Sys2Proof.Machine

namespace Sys2Proof

/-- FREE VALUES of the interleaving (R240; log entries 7 and 22): the moves that draw number `draw` gives for part `part` of
a round, any finite number of them by any agents. Like `Config.free` it has no body. -/
opaque Config.freeMoves (draw part : Nat) : List Machine.Move

end Sys2Proof
end

