-- ==== Sys2Proof/Machine/State.lean ====
section
/-! DEFINITION. The state of the HTG12G0 (spec/10_state.md), the reasons a step can stop, and the state right after reset (R32, R251). -/

namespace Sys2Proof.Machine

/-- Memory as a list of (address, value) pairs in one canonical form: addresses strictly rising, and no entry equal to
what an unlisted address reads as. `Memory 8` is a list of `Host.Cell`. -/
abbrev Memory (w : Nat) := List (Nat × BitVec w)

/-- Everything the machine holds. The last group is the model's own (see INVENTORY.md). -/
structure State where
  /-- The accumulator ACC (R10). -/
  acc : Nibble
  /-- The carry flag CF (R11). -/
  cf : Bool
  /-- The working registers R0 to R4 (R12). -/
  r0 : Nibble
  r1 : Nibble
  r2 : Nibble
  r3 : Nibble
  r4 : Nibble
  /-- The program counter (R14). -/
  pc : CodeAddr
  /-- The latch PA: PA0, PA1 pins, PA2 LCD switch, PA3 ROM bank (R17). -/
  pa : Nibble
  /-- The one-level stack: STACK.pc and STACK.cf (R19). -/
  stackPc : CodeAddr
  stackCf : Bool
  /-- SUB: the program is within a CALL subroutine or an interrupt routine (R20). -/
  sub : Bool
  /-- IE: interrupts enabled (R21). -/
  ie : Bool
  /-- RTCL: the pending bit of the RTC interrupt (R25). -/
  rtcl : Bool
  /-- The 8-bit count-up timer, TMRH and TMRL its nibbles (R22). -/
  timer : Byte
  /-- TON: the timer counts (R23). -/
  ton : Bool
  /-- TF: the timer overflow flag and pending bit (R24). -/
  tf : Bool
  /-- HALTED: power-down mode (R26). -/
  halted : Bool
  /-- The sound generator: SND_ON, SND_CH, SND_LOOP (R27). -/
  sndOn : Bool
  sndCh : Nibble
  sndLoop : Bool
  /-- The data memory M, addresses 00H to FFH (R28). -/
  ram : Memory 4
  /-- The program memory: the byte of bank `b` at address `a` has the key `4096 * b + a` (R6, R43). -/
  rom : Memory 8
  /-- The mask options and the parameters of the spec (R5, R8). -/
  config : Config
  /-- What drives the pins of PS and PP (R30, R236). -/
  ps : Pins
  pp : Pins
  /-- The chip is held in reset: RES is low (R223, R251). -/
  resetHeld : Bool
  /-- The moves of the agents still to come; when none is left, the next round is drawn (R240). -/
  schedule : List Move
  /-- The hidden bit of R172 (a): STACK was last filled by CALL, so STACK.cf is not the caller's carry. -/
  stackByCall : Bool
  /-- The number of the next free value. -/
  free : Nat
  deriving DecidableEq, Repr

/-- Why the machine stops although it has decoded an instruction: the spec's `fault` (R9). Both are SAFE: the model stops
where the hardware would go on in a way the source does not describe. -/
inductive Fault where
  /-- Raised by CALL when SUB = 1 (R170, R222, R254, R255). Safe. -/
  | callWhileStackInUse
  /-- Raised by RET and RETI when SUB = 0 (R171, R172). Safe. -/
  | returnWithEmptyStack
  deriving DecidableEq, Repr

/-- Why the machine has no meaning for what it fetched: the spec's `refuse` (R9). -/
inductive Refusal where
  /-- Raised by an arm of `exec` whose instruction has no meaning yet; no arm is such an arm. Safe. -/
  | notModelled (mnemonic : String)
  /-- Raised by a fetch of a first byte that selects no instruction (R71). Safe. -/
  | illegalFirstByte (b0 : Byte)
  /-- Raised by a fetch of a second byte that the format does not allow (R72). Safe. -/
  | malformedSecondByte (b0 b1 : Byte)
  /-- Raised by a fetch of an encoding the source has lost, under `ADMIT_UNSOURCED = false` (R73). Safe. -/
  | unsourcedEncoding (i : Instr)
  deriving DecidableEq, Repr

/-- The machine right after reset (R32, R251), with the values of log entries 2 to 7, 21 to 23 where the spec gives
none. -/
def State.reset : State where
  acc := 0
  cf := false
  r0 := 0
  r1 := 0
  r2 := 0
  r3 := 0
  r4 := 0
  pc := 0x000
  pa := 0b1011
  stackPc := 0
  stackCf := false
  sub := false
  ie := false
  rtcl := false
  timer := 0
  ton := false
  tf := false
  halted := false
  sndOn := false
  sndCh := 0
  sndLoop := false
  ram := []
  rom := []
  config := Config.default
  ps := Pins.allUnconnected
  pp := Pins.allUnconnected
  resetHeld := false
  schedule := []
  stackByCall := false
  free := 0

end Sys2Proof.Machine
end

