-- ==== Sys2Proof/Machine/Ops.lean ====
section
/-! DEFINITION. The named operations over memory and registers: data and program memory (spec/20_memory.md), the working
registers (R12), the stack (R19), taking an interrupt (R217) and returning from one (R219). -/

namespace Sys2Proof.Machine

/-- What an unlisted address reads as: 0. For data memory after reset this is a DESIGN CHOICE (log entry 3), for the
program memory it is the blank byte of log entry 5. -/
def Memory.unlisted {w : Nat} : BitVec w := 0

/-- The contents of one location (R41, R43). -/
def Memory.read {w : Nat} : Memory w → Nat → BitVec w
  | [], _ => Memory.unlisted
  | (k, v) :: m, a => if a = k then v else Memory.read m a

/-- The memory without an entry for `a`. -/
def Memory.clear {w : Nat} : Memory w → Nat → Memory w
  | [], _ => []
  | (k, x) :: m, a => if k = a then Memory.clear m a else (k, x) :: Memory.clear m a

/-- The memory with an entry for `a` at its place in the order. -/
def Memory.place {w : Nat} : Memory w → Nat → BitVec w → Memory w
  | [], a, v => [(a, v)]
  | (k, x) :: m, a, v => if a < k then (a, v) :: (k, x) :: m else (k, x) :: Memory.place m a v

/-- A write of one location, keeping the canonical form (R41). -/
def Memory.write {w : Nat} (m : Memory w) (a : Nat) (v : BitVec w) : Memory w :=
  if v = Memory.unlisted then m.clear a else (m.clear a).place a v

/-- The canonical form from address `lo` on, all addresses below `size`. -/
def Memory.wfFrom {w : Nat} (size lo : Nat) : Memory w → Bool
  | [] => true
  | (k, v) :: m => decide (lo ≤ k) && decide (k < size) && !decide (v = Memory.unlisted) && Memory.wfFrom size (k + 1) m

/-- The canonical form of a memory of `size` locations. -/
def Memory.wf {w : Nat} (size : Nat) (m : Memory w) : Bool := Memory.wfFrom size 0 m

/-- The memory whose locations below `n` hold `f`. -/
def Memory.tabulate {w : Nat} (f : Nat → BitVec w) : Nat → Memory w
  | 0 => []
  | n + 1 => (Memory.tabulate f n).write n (f n)

/-- Data memory has 256 locations (R41). -/
def ramSize : Nat := 256

/-- Program memory has 8192 bytes (R43). -/
def romSize : Nat := 8192

/-- `MemRead(a, 1)` (R9, R41). -/
def State.load (s : State) (a : DataAddr) : Nibble := s.ram.read a.toNat

/-- `MemWrite(a, 1, v)` (R9, R41). -/
def State.store (s : State) (a : DataAddr) (v : Nibble) : State := { s with ram := s.ram.write a.toNat v }

/-- The ROM bank bit PA3 (R14, R17). -/
def State.bank (s : State) : Bool := s.pa.getLsbD 3

/-- The 13-bit program address `bank ++ a` (R14, R43). -/
def romKey (bank : Bool) (a : CodeAddr) : Nat := (BitVec.ofBool bank ++ a).toNat

/-- `RomRead(b, a)` (R9, R45). -/
def State.romRead (s : State) (bank : Bool) (a : CodeAddr) : Byte := s.rom.read (romKey bank a)

/-- The working register `x[r]` (R12). -/
def State.reg (s : State) : Reg → Nibble
  | .r0 => s.r0
  | .r1 => s.r1
  | .r2 => s.r2
  | .r3 => s.r3
  | .r4 => s.r4

/-- `x[r] <- v` (R12). -/
def State.setReg (s : State) (r : Reg) (v : Nibble) : State :=
  match r with
  | .r0 => { s with r0 := v }
  | .r1 => { s with r1 := v }
  | .r2 => { s with r2 := v }
  | .r3 => { s with r3 := v }
  | .r4 => { s with r4 := v }

/-- A write of ACC (R10). -/
def State.setAcc (s : State) (v : Nibble) : State := { s with acc := v }

/-- A write of CF (R11). -/
def State.setCf (s : State) (c : Bool) : State := { s with cf := c }

/-- `pc <- target` (R9, R14). -/
def State.setPc (s : State) (target : CodeAddr) : State := { s with pc := target }

/-- A write of the timer count (R22). -/
def State.setTimer (s : State) (v : Byte) : State := { s with timer := v }

/-- `any(w)`: the free value that the present draw gives for `slot` (R9, log entry 22). -/
def State.any (s : State) (w : Nat) (slot : FreeSlot) : BitVec w := Config.free w s.free slot

/-- `any(1)` as a flag. -/
def State.anyBit (s : State) (slot : FreeSlot) : Bool := (s.any 1 slot).getLsbD 0

/-- The next draw of free values is a fresh one. -/
def State.drawn (s : State) : State := { s with free := s.free + 1 }

/-- CALL's use of the stack: PC is saved and the carry is not (R19, R170). -/
def State.pushCall (s : State) : State := { s with stackPc := s.pc, sub := true, stackByCall := true }

/-- The interrupt vectors (R44, R211). -/
def rtcVector : CodeAddr := 0x008
def timerVector : CodeAddr := 0x004

/-- The acceptance condition of an interrupt at a boundary (R215). -/
def State.interruptReady (s : State) : Bool := !s.halted && s.ie && !s.sub && (s.rtcl || s.tf)

/-- TAKING AN INTERRUPT (R217): PC and CF go to the stack, SUB is set, and the RTC comes before the timer (R216). The
bank stays (R218), and so do IE, CF and all else. -/
def State.takeInterrupt (s : State) : State :=
  let saved := { s with stackPc := s.pc, stackCf := s.cf, sub := true, stackByCall := false }
  if s.rtcl then { saved with rtcl := false, pc := rtcVector }
  else { saved with tf := false, pc := timerVector }

/-- RETURNING (R219): PC comes back from the stack and SUB is cleared; the stack keeps its contents (R171). -/
def State.returnFromStack (s : State) : State := { s with pc := s.stackPc, sub := false }

/-- RETI's carry (R172): STACK.cf after an interrupt entry, a free value after a CALL. -/
def State.restoreCarry (s : State) : State :=
  if s.stackByCall then (s.setCf (s.anyBit .cf)).drawn else s.setCf s.stackCf

/-- RES active (R32, R251): every piece of state the spec gives a reset value takes it, and the rest takes free values
(log entry 27). What is not inside the chip stays. -/
def State.resetChip (s : State) : State :=
  { s with
    acc := s.any 4 .acc
    cf := s.anyBit .cf
    r0 := s.any 4 .r0
    r1 := s.any 4 .r1
    r2 := s.any 4 .r2
    r3 := s.any 4 .r3
    r4 := s.any 4 .r4
    pc := 0x000
    pa := 0b1011
    stackPc := s.any 12 .stackPc
    stackCf := s.anyBit .stackCf
    sub := false
    ie := false
    rtcl := false
    timer := s.any 8 .timer
    ton := false
    tf := false
    halted := false
    sndOn := false
    sndCh := s.any 4 .sndCh
    sndLoop := false
    ram := Memory.tabulate (fun a => s.any 4 (.ram a)) ramSize
    stackByCall := false
    free := s.free + 1 }

end Sys2Proof.Machine
end

