-- ==== Sys2Proof/Machine/Operands.lean ====
section
/-! DEFINITION. Every operand form: the register pairs (R13), memory operands (R41), the timer nibbles (R22), table-read
addresses (R191), jump targets (R168) and port levels (R150, R236). On entry to an instruction `pc` is `npc` (R15). -/

namespace Sys2Proof.Machine

/-- The two register pairs that address data memory (R13). -/
inductive Pair where
  | p10 | p32
  deriving DecidableEq, Repr

/-- `P10 = x[1] ++ x[0]` and `P32 = x[3] ++ x[2]` (R13). -/
def State.pairAddr (s : State) : Pair → DataAddr
  | .p10 => s.r1 ++ s.r0
  | .p32 => s.r3 ++ s.r2

/-- The memory operand `[R1R0]` or `[R3R2]` (R41). -/
def State.loadPair (s : State) (p : Pair) : Nibble := s.load (s.pairAddr p)

/-- A write of the memory operand `[R1R0]` or `[R3R2]` (R41). -/
def State.storePair (s : State) (p : Pair) (v : Nibble) : State := s.store (s.pairAddr p) v

/-- The pair as an immediate destination: high nibble to the first-named register (R137, R138). -/
def State.setPair (s : State) (p : Pair) (d : Byte) : State :=
  match p with
  | .p10 => (s.setReg .r1 (hiNibble d)).setReg .r0 (loNibble d)
  | .p32 => (s.setReg .r3 (hiNibble d)).setReg .r2 (loNibble d)

/-- TMRL, `TIMER[3:0]` (R22). -/
def State.timerLow (s : State) : Nibble := loNibble s.timer

/-- TMRH, `TIMER[7:4]` (R22). -/
def State.timerHigh (s : State) : Nibble := hiNibble s.timer

/-- A table-read address: page, ACC, low nibble (R191). -/
def tableAddr (page acc low : Nibble) : CodeAddr := page ++ acc ++ low

/-- The current page: the page of the byte after the instruction (R191, R253). -/
def State.currentPage (s : State) : Nibble := s.pc.extractLsb' 8 4

/-- Page F (R191). -/
def pageF : Nibble := 0xF

/-- The ROM byte a table read fetches, in the current bank (R45, R191). -/
def State.tableByte (s : State) (page low : Nibble) : Byte := s.romRead s.bank (tableAddr page s.acc low)

/-- The bit 11 that a conditional jump leaves unaffected (R168): that of the next instruction's address, or under `own`
that of the two-byte jump's first byte. -/
def State.keptBit11 (s : State) : Bool :=
  match s.config.jumpPc11 with
  | .next => s.pc.getLsbD 11
  | .own => (s.pc - 2).getLsbD 11

/-- The target of a conditional jump (R168). -/
def State.jumpTarget (s : State) (addr : JumpAddr) : CodeAddr := BitVec.ofBool s.keptBit11 ++ addr

/-- The two input ports (R150). -/
inductive Port where
  | ps | pp
  deriving DecidableEq, Repr

/-- The level of a pin: what drives it, or else its pull-high resistor, or else nothing the spec fixes (R150, R236). -/
def Drive.level (d : Drive) (pullHigh floating : Bool) : Bool :=
  match d with
  | .low => false
  | .high => true
  | .unconnected => pullHigh || floating

/-- What drives pin `k` of a port. -/
def Pins.drive (p : Pins) (k : Fin 4) : Drive :=
  match k with
  | 0 => p.pin0
  | 1 => p.pin1
  | 2 => p.pin2
  | 3 => p.pin3

/-- The four pin levels, pin `k` in bit `k` (R150, D5). -/
def Pins.levels (p : Pins) (pullHigh floating : Nibble) : Nibble :=
  BitVec.ofBool (p.pin3.level (pullHigh.getLsbD 3) (floating.getLsbD 3)) ++
  BitVec.ofBool (p.pin2.level (pullHigh.getLsbD 2) (floating.getLsbD 2)) ++
  BitVec.ofBool (p.pin1.level (pullHigh.getLsbD 1) (floating.getLsbD 1)) ++
  BitVec.ofBool (p.pin0.level (pullHigh.getLsbD 0) (floating.getLsbD 0))

/-- What drives a port. -/
def State.portPins (s : State) : Port → Pins
  | .ps => s.ps
  | .pp => s.pp

/-- `PULLHIGH` of a port (R5). -/
def State.pullHigh (s : State) : Port → Nibble
  | .ps => s.config.pullHighPs
  | .pp => s.config.pullHighPp

/-- Which free value stands for the floating pins of a port. -/
def floatSlot : Port → FreeSlot
  | .ps => .psPins
  | .pp => .ppPins

/-- `InPort(p)`: the levels on the four pins now (R9, R150, R236). -/
def State.inPort (s : State) (p : Port) : Nibble :=
  (s.portPins p).levels (s.pullHigh p) (s.any 4 (floatSlot p))

end Sys2Proof.Machine
end

