-- ==== Sys2Proof/Machine/Agents.lean ====
section
/-! DEFINITION. The steps of the agents beside the CPU (spec/60_exceptions.md R225 to R240): timer, RTC, sound generator,
LCD driver, the pins and the RES pin, and the round in which every agent gets its move (R240). RES low stops the CPU
(R251); of the devices it stops what reset has switched off, and the RTC goes on. -/

namespace Sys2Proof.Machine

/-- The count step (R225): enabled while TON = 1 and HALTED = 0; the overflow from FFH to 00H sets TF. -/
def State.timerTick (s : State) : State :=
  if s.ton && !s.halted then
    if s.timer = 0xFF then { s with timer := 0x00, tf := true } else { s with timer := s.timer + 1 }
  else s

/-- The RTC event (R228, R230): the latch is set, and a halted chip wakes. It is enabled always (R240), also while RES is
low (log entry 27). -/
def State.rtcEvent (s : State) : State := { s with rtcl := true, halted := false }

/-- The playing sound ends (R233): SONE mode stops it, SLOOP mode starts it again. The generator runs on the system
clock, so not in HALT mode (R229). -/
def State.soundEnd (s : State) : State :=
  if s.sndOn && !s.halted then { s with sndOn := s.sndLoop } else s

/-- A pin enabled for wake-up goes from high to low (R232). -/
def fallingEdge (wake old new : Nibble) : Bool := decide (wake &&& old &&& ~~~new ≠ 0)

/-- The environment drives PS and PP (R236); in HALT mode a falling edge on an enabled pin wakes the chip, and outside it
an edge has no effect (R232, D39). -/
def State.setPins (s : State) (ps pp : Pins) : State :=
  let t := { s.drawn with ps := ps, pp := pp }
  let wakes := fallingEdge s.config.wakePs (s.inPort .ps) (t.inPort .ps) ||
    fallingEdge s.config.wakePp (s.inPort .pp) (t.inPort .pp)
  { t.drawn with halted := s.halted && !wakes }

/-- The RES pin (R250, R251): low puts the chip in its reset state and holds it there, high lets it run. -/
def State.setRes (s : State) (low : Bool) : State :=
  if low then { s.resetChip with resetHeld := true } else { s with resetHeld := false }

/-- One move of an agent that is not the CPU (R240). The LCD driver reads and writes nothing (R234). -/
def State.deviceMove (s : State) : Move → State
  | .cpu _ => s
  | .timerTick => s.timerTick
  | .rtcEvent => s.rtcEvent
  | .soundEnd => s.soundEnd
  | .lcdScan => s
  | .pins ps pp => s.setPins ps pp
  | .resPin low => s.setRes low

/-- A ROUND (R240): any moves of any agents in any order, and among them one of the timer, one of the RTC and one of the
CPU. WEAK FAIRNESS is in this shape: a run is one round after another, so a timer or RTC step that stays enabled happens.
A run that is fair to the three is a sequence of rounds, up to ticks of a timer that is not enabled (log entry 7). -/
def State.round (s : State) : List Move :=
  Config.freeMoves s.free 0 ++ .timerTick :: (Config.freeMoves s.free 1 ++ .rtcEvent ::
    (Config.freeMoves s.free 2 ++ [.cpu (s.anyBit .deferInterrupt)]))

/-- The next round is drawn. No agent moves. -/
def State.nextRound (s : State) : State := { s.drawn with schedule := s.round }

end Sys2Proof.Machine
end

