-- ==== Sys2Proof/Machine/Flags.lean ====
section
/-! DEFINITION. Every computation of the carry flag, the machine's one flag (R11, R31): the arithmetic law (R107), the
decimal adjustment (R106) and the rotates (R140 to R143). Each answers the new accumulator and the new carry. -/

namespace Sys2Proof.Machine

/-- The 5-bit sum of the arithmetic law (R107). -/
def sumOf (a b : Nibble) (c : Bool) : Nat := a.toNat + b.toNat + c.toNat

/-- Addition: `s mod 16` and `s[4]` (R107). -/
def addCarry (a b : Nibble) (c : Bool) : Nibble × Bool :=
  (BitVec.ofNat 4 (sumOf a b c), (sumOf a b c).testBit 4)

/-- Subtraction as the addition of the complement; `c` is 1 for no borrow in, and the carry is 1 for no borrow out
(R107, R103). -/
def subCarry (a b : Nibble) (c : Bool) : Nibble × Bool := addCarry a (~~~b) c

/-- DAA (R106): in the adjusting branch the carry is set whatever the sum. -/
def decimalAdjust (a : Nibble) (c : Bool) : Nibble × Bool :=
  if 9 < a.toNat ∨ c = true then (a + 6, true) else (a, c)

/-- `RL A` (R140). -/
def rotateLeft (a : Nibble) : Nibble × Bool :=
  (a.extractLsb' 0 3 ++ a.extractLsb' 3 1, a.getLsbD 3)

/-- `RLC A` (R141). -/
def rotateLeftCarry (a : Nibble) (c : Bool) : Nibble × Bool :=
  (a.extractLsb' 0 3 ++ BitVec.ofBool c, a.getLsbD 3)

/-- `RR A` (R142). -/
def rotateRight (a : Nibble) : Nibble × Bool :=
  (a.extractLsb' 0 1 ++ a.extractLsb' 1 3, a.getLsbD 0)

/-- `RRC A` (R143). -/
def rotateRightCarry (a : Nibble) (c : Bool) : Nibble × Bool :=
  (BitVec.ofBool c ++ a.extractLsb' 1 3, a.getLsbD 0)

/-- A result and its carry go to ACC and CF. -/
def State.setAccCf (s : State) (r : Nibble × Bool) : State := (s.setAcc r.1).setCf r.2

end Sys2Proof.Machine
end

