-- ==== Sys2Proof/Machine/Arithmetic.lean ====
section
/-! DEFINITION. The arithmetic instructions (spec/40_arithmetic.md R100 to R107). On entry `pc` is `npc` (R15). -/

namespace Sys2Proof.Machine

/-- `ADD A,[R1R0]` (R100). -/
def execAddAM10 (s : State) : Host.Outcome State Fault Refusal :=
  .next (s.setAccCf (addCarry s.acc (s.loadPair .p10) false))

/-- `ADC A,[R1R0]` (R101). -/
def execAdcAM10 (s : State) : Host.Outcome State Fault Refusal :=
  .next (s.setAccCf (addCarry s.acc (s.loadPair .p10) s.cf))

/-- `SUB A,[R1R0]` (R102; CF by D2, log entry 12). -/
def execSubAM10 (s : State) : Host.Outcome State Fault Refusal :=
  .next (s.setAccCf (subCarry s.acc (s.loadPair .p10) true))

/-- `SBC A,[R1R0]` (R103; the description governs, C2). -/
def execSbcAM10 (s : State) : Host.Outcome State Fault Refusal :=
  .next (s.setAccCf (subCarry s.acc (s.loadPair .p10) s.cf))

/-- `ADD A,XH` (R104). -/
def execAddAImm (d : Nibble) (s : State) : Host.Outcome State Fault Refusal :=
  .next (s.setAccCf (addCarry s.acc d false))

/-- `SUB A,XH` (R105; CF by D2, log entry 12). -/
def execSubAImm (d : Nibble) (s : State) : Host.Outcome State Fault Refusal :=
  .next (s.setAccCf (subCarry s.acc d true))

/-- `DAA` (R106). -/
def execDaa (s : State) : Host.Outcome State Fault Refusal :=
  .next (s.setAccCf (decimalAdjust s.acc s.cf))

end Sys2Proof.Machine
end

