-- ==== Sys2Proof/Machine/Branch.lean ====
section
/-! DEFINITION. The branch instructions (spec/46_branch.md R160 to R168). On entry `pc` is `npc` (R15). -/

namespace Sys2Proof.Machine

/-- A conditional jump: to the target of R168 if the condition holds, else to the next instruction. -/
def State.jumpIf (s : State) (cond : Bool) (addr : JumpAddr) : State :=
  if cond then s.setPc (s.jumpTarget addr) else s

/-- `JMP` (R160). -/
def execJmp (addr : CodeAddr) (s : State) : Host.Outcome State Fault Refusal :=
  .next (s.setPc addr)

/-- `JC` (R161). -/
def execJc (addr : JumpAddr) (s : State) : Host.Outcome State Fault Refusal :=
  .next (s.jumpIf s.cf addr)

/-- `JNC` (R162). -/
def execJnc (addr : JumpAddr) (s : State) : Host.Outcome State Fault Refusal :=
  .next (s.jumpIf (!s.cf) addr)

/-- `JTMR` (R163): TF is read and cleared. -/
def execJtmr (addr : JumpAddr) (s : State) : Host.Outcome State Fault Refusal :=
  .next (State.jumpIf { s with tf := false } s.tf addr)

/-- `JA0` (R164). -/
def execJa0 (addr : JumpAddr) (s : State) : Host.Outcome State Fault Refusal :=
  .next (s.jumpIf (s.acc.getLsbD 0) addr)

/-- `JA1` (R164). -/
def execJa1 (addr : JumpAddr) (s : State) : Host.Outcome State Fault Refusal :=
  .next (s.jumpIf (s.acc.getLsbD 1) addr)

/-- `JA2` (R164). -/
def execJa2 (addr : JumpAddr) (s : State) : Host.Outcome State Fault Refusal :=
  .next (s.jumpIf (s.acc.getLsbD 2) addr)

/-- `JA3` (R164). -/
def execJa3 (addr : JumpAddr) (s : State) : Host.Outcome State Fault Refusal :=
  .next (s.jumpIf (s.acc.getLsbD 3) addr)

/-- `JZ A` (R165). -/
def execJzA (addr : JumpAddr) (s : State) : Host.Outcome State Fault Refusal :=
  .next (s.jumpIf (s.acc == 0) addr)

/-- `JNZ A` (R166). -/
def execJnzA (addr : JumpAddr) (s : State) : Host.Outcome State Fault Refusal :=
  .next (s.jumpIf (s.acc != 0) addr)

/-- `JNZ R0` (R167). -/
def execJnzR0 (addr : JumpAddr) (s : State) : Host.Outcome State Fault Refusal :=
  .next (s.jumpIf (s.reg .r0 != 0) addr)

/-- `JNZ R1` (R167). -/
def execJnzR1 (addr : JumpAddr) (s : State) : Host.Outcome State Fault Refusal :=
  .next (s.jumpIf (s.reg .r1 != 0) addr)

/-- `JNZ R4` (R167). -/
def execJnzR4 (addr : JumpAddr) (s : State) : Host.Outcome State Fault Refusal :=
  .next (s.jumpIf (s.reg .r4 != 0) addr)

end Sys2Proof.Machine
end

