-- ==== Sys2Proof/Machine/DataMove.lean ====
section
/-! DEFINITION. The data move instructions (spec/43_datamove.md R130 to R139). On entry `pc` is `npc` (R15). -/

namespace Sys2Proof.Machine

/-- `MOV A,R0` (R130). -/
def execMovAR0 (s : State) : Host.Outcome State Fault Refusal :=
  .next (s.setAcc (s.reg .r0))

/-- `MOV R0,A` (R131). -/
def execMovR0A (s : State) : Host.Outcome State Fault Refusal :=
  .next (s.setReg .r0 s.acc)

/-- `MOV A,R1` (R130). -/
def execMovAR1 (s : State) : Host.Outcome State Fault Refusal :=
  .next (s.setAcc (s.reg .r1))

/-- `MOV R1,A` (R131). -/
def execMovR1A (s : State) : Host.Outcome State Fault Refusal :=
  .next (s.setReg .r1 s.acc)

/-- `MOV A,R2` (R130). -/
def execMovAR2 (s : State) : Host.Outcome State Fault Refusal :=
  .next (s.setAcc (s.reg .r2))

/-- `MOV R2,A` (R131). -/
def execMovR2A (s : State) : Host.Outcome State Fault Refusal :=
  .next (s.setReg .r2 s.acc)

/-- `MOV A,R3` (R130). -/
def execMovAR3 (s : State) : Host.Outcome State Fault Refusal :=
  .next (s.setAcc (s.reg .r3))

/-- `MOV R3,A` (R131). -/
def execMovR3A (s : State) : Host.Outcome State Fault Refusal :=
  .next (s.setReg .r3 s.acc)

/-- `MOV A,R4` (R130). -/
def execMovAR4 (s : State) : Host.Outcome State Fault Refusal :=
  .next (s.setAcc (s.reg .r4))

/-- `MOV R4,A` (R131). -/
def execMovR4A (s : State) : Host.Outcome State Fault Refusal :=
  .next (s.setReg .r4 s.acc)

/-- `MOV A,[R1R0]` (R132). -/
def execMovAM10 (s : State) : Host.Outcome State Fault Refusal :=
  .next (s.setAcc (s.loadPair .p10))

/-- `MOV [R1R0],A` (R134). -/
def execMovM10A (s : State) : Host.Outcome State Fault Refusal :=
  .next (s.storePair .p10 s.acc)

/-- `MOV A,[R3R2]` (R133). -/
def execMovAM32 (s : State) : Host.Outcome State Fault Refusal :=
  .next (s.setAcc (s.loadPair .p32))

/-- `MOV [R3R2],A` (R135). -/
def execMovM32A (s : State) : Host.Outcome State Fault Refusal :=
  .next (s.storePair .p32 s.acc)

/-- `MOV A,XH` (R136). -/
def execMovAImm (d : Nibble) (s : State) : Host.Outcome State Fault Refusal :=
  .next (s.setAcc d)

/-- `MOV R1R0,XXH` (R137). -/
def execMovR1R0Imm (d : Byte) (s : State) : Host.Outcome State Fault Refusal :=
  .next (s.setPair .p10 d)

/-- `MOV R3R2,XXH` (R138). -/
def execMovR3R2Imm (d : Byte) (s : State) : Host.Outcome State Fault Refusal :=
  .next (s.setPair .p32 d)

/-- `MOV R4,XH` (R139). -/
def execMovR4Imm (d : Nibble) (s : State) : Host.Outcome State Fault Refusal :=
  .next (s.setReg .r4 d)

end Sys2Proof.Machine
end

