-- ==== Sys2Proof/Machine/InOut.lean ====
section
/-! DEFINITION. The input and output instructions (spec/45_io.md R150, R151). On entry `pc` is `npc` (R15). -/

namespace Sys2Proof.Machine

/-- `ACC <- InPort(p)` (R150); the next read of a floating pin is a fresh draw (R9). -/
def State.readPort (s : State) (p : Port) : State := (s.setAcc (s.inPort p)).drawn

/-- `IN A,PS` (R150). -/
def execInAPs (s : State) : Host.Outcome State Fault Refusal :=
  .next (s.readPort .ps)

/-- `IN A,PP` (R150). -/
def execInAPp (s : State) : Host.Outcome State Fault Refusal :=
  .next (s.readPort .pp)

/-- `OUT PA,A` (R151): all four bits, the bank bit among them. -/
def execOutPaA (s : State) : Host.Outcome State Fault Refusal :=
  .next { s with pa := s.acc }

end Sys2Proof.Machine
end

