-- ==== Sys2Proof/Machine/IncDec.lean ====
section
/-! DEFINITION. The increment and decrement instructions (spec/42_incdec.md R120 to R127): modulo 16, CF unchanged. On entry `pc` is `npc` (R15). -/

namespace Sys2Proof.Machine

/-- `x[r] <- (x[r] + 1) mod 16` (R121). -/
def State.incReg (s : State) (r : Reg) : State := s.setReg r (s.reg r + 1)

/-- `x[r] <- (x[r] - 1) mod 16` (R125). -/
def State.decReg (s : State) (r : Reg) : State := s.setReg r (s.reg r - 1)

/-- `INC A` (R120). -/
def execIncA (s : State) : Host.Outcome State Fault Refusal :=
  .next (s.setAcc (s.acc + 1))

/-- `DEC A` (R124). -/
def execDecA (s : State) : Host.Outcome State Fault Refusal :=
  .next (s.setAcc (s.acc - 1))

/-- `INC R0` (R121). -/
def execIncR0 (s : State) : Host.Outcome State Fault Refusal :=
  .next (s.incReg .r0)

/-- `DEC R0` (R125). -/
def execDecR0 (s : State) : Host.Outcome State Fault Refusal :=
  .next (s.decReg .r0)

/-- `INC R1` (R121). -/
def execIncR1 (s : State) : Host.Outcome State Fault Refusal :=
  .next (s.incReg .r1)

/-- `DEC R1` (R125). -/
def execDecR1 (s : State) : Host.Outcome State Fault Refusal :=
  .next (s.decReg .r1)

/-- `INC R2` (R121). -/
def execIncR2 (s : State) : Host.Outcome State Fault Refusal :=
  .next (s.incReg .r2)

/-- `DEC R2` (R125). -/
def execDecR2 (s : State) : Host.Outcome State Fault Refusal :=
  .next (s.decReg .r2)

/-- `INC R3` (R121). -/
def execIncR3 (s : State) : Host.Outcome State Fault Refusal :=
  .next (s.incReg .r3)

/-- `DEC R3` (R125). -/
def execDecR3 (s : State) : Host.Outcome State Fault Refusal :=
  .next (s.decReg .r3)

/-- `INC R4` (R121). -/
def execIncR4 (s : State) : Host.Outcome State Fault Refusal :=
  .next (s.incReg .r4)

/-- `DEC R4` (R125). -/
def execDecR4 (s : State) : Host.Outcome State Fault Refusal :=
  .next (s.decReg .r4)

/-- `INC [R1R0]` (R122). -/
def execIncM10 (s : State) : Host.Outcome State Fault Refusal :=
  .next (s.storePair .p10 (s.loadPair .p10 + 1))

/-- `DEC [R1R0]` (R126). -/
def execDecM10 (s : State) : Host.Outcome State Fault Refusal :=
  .next (s.storePair .p10 (s.loadPair .p10 - 1))

/-- `INC [R3R2]` (R123). -/
def execIncM32 (s : State) : Host.Outcome State Fault Refusal :=
  .next (s.storePair .p32 (s.loadPair .p32 + 1))

/-- `DEC [R3R2]` (R127). -/
def execDecM32 (s : State) : Host.Outcome State Fault Refusal :=
  .next (s.storePair .p32 (s.loadPair .p32 - 1))

end Sys2Proof.Machine
end

