-- ==== Sys2Proof/Machine/Logic.lean ====
section
/-! DEFINITION. The logic instructions (spec/41_logic.md R110 to R119): CF is neither read nor written (R119, D4). On entry `pc` is `npc` (R15). -/

namespace Sys2Proof.Machine

/-- `AND A,[R1R0]` (R110). -/
def execAndAM10 (s : State) : Host.Outcome State Fault Refusal :=
  .next (s.setAcc (s.acc &&& s.loadPair .p10))

/-- `AND [R1R0],A` (R113). -/
def execAndM10A (s : State) : Host.Outcome State Fault Refusal :=
  .next (s.storePair .p10 (s.loadPair .p10 &&& s.acc))

/-- `AND A,XH` (R116). -/
def execAndAImm (d : Nibble) (s : State) : Host.Outcome State Fault Refusal :=
  .next (s.setAcc (s.acc &&& d))

/-- `OR A,[R1R0]` (R111). -/
def execOrAM10 (s : State) : Host.Outcome State Fault Refusal :=
  .next (s.setAcc (s.acc ||| s.loadPair .p10))

/-- `OR [R1R0],A` (R114). -/
def execOrM10A (s : State) : Host.Outcome State Fault Refusal :=
  .next (s.storePair .p10 (s.loadPair .p10 ||| s.acc))

/-- `OR A,XH` (R117). -/
def execOrAImm (d : Nibble) (s : State) : Host.Outcome State Fault Refusal :=
  .next (s.setAcc (s.acc ||| d))

/-- `XOR A,[R1R0]` (R112; log entry 13). -/
def execXorAM10 (s : State) : Host.Outcome State Fault Refusal :=
  .next (s.setAcc (s.acc ^^^ s.loadPair .p10))

/-- `XOR [R1R0],A` (R115; log entry 13). -/
def execXorM10A (s : State) : Host.Outcome State Fault Refusal :=
  .next (s.storePair .p10 (s.loadPair .p10 ^^^ s.acc))

/-- `XOR A,XH` (R118; log entry 13). -/
def execXorAImm (d : Nibble) (s : State) : Host.Outcome State Fault Refusal :=
  .next (s.setAcc (s.acc ^^^ d))

end Sys2Proof.Machine
end

