-- ==== Sys2Proof/Machine/Rotate.lean ====
section
/-! DEFINITION. The rotate instructions (spec/44_rotate.md R140 to R143). On entry `pc` is `npc` (R15). -/

namespace Sys2Proof.Machine

/-- `RL A` (R140). -/
def execRlA (s : State) : Host.Outcome State Fault Refusal :=
  .next (s.setAccCf (rotateLeft s.acc))

/-- `RLC A` (R141). -/
def execRlcA (s : State) : Host.Outcome State Fault Refusal :=
  .next (s.setAccCf (rotateLeftCarry s.acc s.cf))

/-- `RR A` (R142). -/
def execRrA (s : State) : Host.Outcome State Fault Refusal :=
  .next (s.setAccCf (rotateRight s.acc))

/-- `RRC A` (R143). -/
def execRrcA (s : State) : Host.Outcome State Fault Refusal :=
  .next (s.setAccCf (rotateRightCarry s.acc s.cf))

end Sys2Proof.Machine
end

