-- ==== Sys2Proof/Machine/SoundHalt.lean ====
section
/-! DEFINITION. The sound control instructions and HALT (spec/49_sound_halt.md R195 to R200). On entry `pc` is `npc` (R15). -/

namespace Sys2Proof.Machine

/-- A sound channel begins to play; the mode stays (R195, R196). -/
def State.startSound (s : State) (n : Nibble) : State := { s with sndCh := n, sndOn := true }

/-- `SOUND n` (R195). -/
def execSoundImm (n : Nibble) (s : State) : Host.Outcome State Fault Refusal :=
  .next (s.startSound n)

/-- `SOUND A` (R196). -/
def execSoundA (s : State) : Host.Outcome State Fault Refusal :=
  .next (s.startSound s.acc)

/-- `SOUND ONE` (R197): the mode bit only (U15). -/
def execSoundOne (s : State) : Host.Outcome State Fault Refusal :=
  .next { s with sndLoop := false }

/-- `SOUND LOOP` (R198): the mode bit only (U15). -/
def execSoundLoop (s : State) : Host.Outcome State Fault Refusal :=
  .next { s with sndLoop := true }

/-- `SOUND OFF` (R199). -/
def execSoundOff (s : State) : Host.Outcome State Fault Refusal :=
  .next { s with sndOn := false }

/-- `HALT` (R200, R229). -/
def execHalt (s : State) : Host.Outcome State Fault Refusal :=
  .next { s with halted := true }

end Sys2Proof.Machine
end

