-- ==== Sys2Proof/Machine/Subroutine.lean ====
section
/-! DEFINITION. The subroutine, flag and no-operation instructions (spec/47_subroutine_flag_nop.md R170 to R177). On entry `pc` is `npc` (R15). -/

namespace Sys2Proof.Machine

/-- `CALL` (R170): a fault while the stack is in use. -/
def execCall (addr : CodeAddr) (s : State) : Host.Outcome State Fault Refusal :=
  if s.sub then .fault .callWhileStackInUse else .next (s.pushCall.setPc addr)

/-- `RET` (R171): a fault with nothing on the stack. -/
def execRet (s : State) : Host.Outcome State Fault Refusal :=
  if s.sub then .next s.returnFromStack else .fault .returnWithEmptyStack

/-- `RETI` (R172): as RET, and the carry comes back too. -/
def execReti (s : State) : Host.Outcome State Fault Refusal :=
  if s.sub then .next s.restoreCarry.returnFromStack else .fault .returnWithEmptyStack

/-- `CLC` (R173). -/
def execClc (s : State) : Host.Outcome State Fault Refusal :=
  .next (s.setCf false)

/-- `STC` (R174; log entry 10). -/
def execStc (s : State) : Host.Outcome State Fault Refusal :=
  .next (s.setCf true)

/-- `EI` (R175). -/
def execEi (s : State) : Host.Outcome State Fault Refusal :=
  .next { s with ie := true }

/-- `DI` (R176). -/
def execDi (s : State) : Host.Outcome State Fault Refusal :=
  .next { s with ie := false }

/-- `NOP` (R177). -/
def execNop (s : State) : Host.Outcome State Fault Refusal :=
  .next s

end Sys2Proof.Machine
end

