-- ==== Sys2Proof/Machine/TimerTable.lean ====
section
/-! DEFINITION. The timer and table-read instructions (spec/48_timer_tableread.md R180 to R191). On entry `pc` is `npc` (R15). -/

namespace Sys2Proof.Machine

/-- The destinations of `READ R4A` and `READF R4A`: high nibble to R4, low nibble to ACC (R187, R189). -/
def State.readToR4 (s : State) (byte : Byte) : State := (s.setReg .r4 (hiNibble byte)).setAcc (loNibble byte)

/-- The destinations of `READ MR0A` and `READF MR0A`: high nibble to `[R1R0]`, low nibble to ACC (R188, R190). -/
def State.readToMemory (s : State) (byte : Byte) : State :=
  (s.storePair .p10 (hiNibble byte)).setAcc (loNibble byte)

/-- `TIMER XXH` (R180). -/
def execTimerImm (d : Byte) (s : State) : Host.Outcome State Fault Refusal :=
  .next (s.setTimer d)

/-- `TIMER ON` (R181). -/
def execTimerOn (s : State) : Host.Outcome State Fault Refusal :=
  .next { s with ton := true }

/-- `TIMER OFF` (R182). -/
def execTimerOff (s : State) : Host.Outcome State Fault Refusal :=
  .next { s with ton := false }

/-- `MOV A,TMRL` (R183). -/
def execMovATmrl (s : State) : Host.Outcome State Fault Refusal :=
  .next (s.setAcc s.timerLow)

/-- `MOV A,TMRH` (R184). -/
def execMovATmrh (s : State) : Host.Outcome State Fault Refusal :=
  .next (s.setAcc s.timerHigh)

/-- `MOV TMRL,A` (R185). -/
def execMovTmrlA (s : State) : Host.Outcome State Fault Refusal :=
  .next (s.setTimer (s.timerHigh ++ s.acc))

/-- `MOV TMRH,A` (R186). -/
def execMovTmrhA (s : State) : Host.Outcome State Fault Refusal :=
  .next (s.setTimer (s.acc ++ s.timerLow))

/-- `READ R4A` (R187). -/
def execReadR4A (s : State) : Host.Outcome State Fault Refusal :=
  .next (s.readToR4 (s.tableByte s.currentPage (s.loadPair .p10)))

/-- `READ MR0A` (R188). -/
def execReadMr0A (s : State) : Host.Outcome State Fault Refusal :=
  .next (s.readToMemory (s.tableByte s.currentPage (s.reg .r4)))

/-- `READF R4A` (R189). -/
def execReadfR4A (s : State) : Host.Outcome State Fault Refusal :=
  .next (s.readToR4 (s.tableByte pageF (s.loadPair .p10)))

/-- `READF MR0A` (R190). -/
def execReadfMr0A (s : State) : Host.Outcome State Fault Refusal :=
  .next (s.readToMemory (s.tableByte pageF (s.reg .r4)))

end Sys2Proof.Machine
end

