-- ==== Sys2Proof/Machine/Fetch.lean ====
section
/-! DEFINITION. Fetching and decoding the next instruction (spec/10_state.md R14 to R16), and placing one where the fetch
reads it. -/

namespace Sys2Proof.Machine

/-- The byte at PC in the current bank (R14, R15). -/
def State.firstByte (s : State) : Byte := s.romRead s.bank s.pc

/-- The byte after it, modulo 4096 in the same bank (R15, R16). -/
def State.secondByte (s : State) : Byte := s.romRead s.bank (s.pc + 1)

/-- What the bytes at PC decode to under the machine's configuration. -/
def State.fetched (s : State) : Decoded := decode s.config s.firstByte s.secondByte

/-- `npc`, the address after an instruction of this length (R15, R16). -/
def State.npc (s : State) (len : Nat) : CodeAddr := s.pc + BitVec.ofNat 12 len

/-- The refusal that stands for a decoding error (R71, R72, R73). -/
def refusalOf : DecodeError → Refusal
  | .illegalFirst b0 => .illegalFirstByte b0
  | .malformedSecond b0 b1 => .malformedSecondByte b0 b1
  | .unsourced i => .unsourcedEncoding i

/-- Does an interrupt go before the next instruction? Under `INT_LATENCY = any` the CPU's move may put it off
(R215, D14). -/
def State.interruptFirst (s : State) (deferInterrupt : Bool) : Bool :=
  s.interruptReady && !(deferInterrupt && decide (s.config.intLatency = .any))

/-- The state whose next step fetches at PC: running, the CPU's move next, and no interrupt in the way
(log entry 34). -/
def State.readyToFetch (s : State) : State :=
  let t := { s with halted := false, resetHeld := false, schedule := [.cpu false] }
  { t with ie := t.ie && !t.interruptReady }

/-- The two bytes stored at PC and after it. -/
def State.placeBytes (s : State) (b0 b1 : Byte) : State :=
  { s with rom := (s.rom.write (romKey s.bank s.pc) b0).write (romKey s.bank (s.pc + 1)) b1 }

end Sys2Proof.Machine
end

