-- ==== Sys2Proof/Machine/Cpu.lean ====
section
/-! DEFINITION. The CPU's move (spec/10_state.md R15, spec/60_exceptions.md R215, R240) and the move of any agent. -/

namespace Sys2Proof.Machine

/-- The instruction at PC: PC goes past it first, then its operation runs (R15). -/
def runInstruction (s : State) : Host.Outcome State Fault Refusal :=
  match s.fetched with
  | .ok i => exec i (s.setPc (s.npc i.length))
  | .bad e => .refused (refusalOf e)

/-- The CPU's move: nothing while halted or held in reset, or an interrupt entry, or one instruction. -/
def cpuStep (deferInterrupt : Bool) (s : State) : Host.Outcome State Fault Refusal :=
  if s.resetHeld || s.halted then .next s
  else if s.interruptFirst deferInterrupt then .next s.takeInterrupt
  else runInstruction s

/-- One agent's move. -/
def runMove (m : Move) (s : State) : Host.Outcome State Fault Refusal :=
  match m with
  | .cpu deferInterrupt => cpuStep deferInterrupt s
  | m => .next (s.deviceMove m)

end Sys2Proof.Machine
end

