-- ==== Sys2Proof/Machine/Step.lean ====
section
/-! DEFINITION. One step of the machine: the next move of the schedule, or the drawing of the next round where none is
left (spec/60_exceptions.md R240). -/

namespace Sys2Proof.Machine

/-- One step. -/
def step (s : State) : Host.Outcome State Fault Refusal :=
  match s.schedule with
  | [] => .next s.nextRound
  | m :: rest => runMove m { s with schedule := rest }

/-- `s` with the instruction of table number `w` stored where the next step fetches it. -/
def State.withFetchWord (s : State) (nbits w : Nat) : State :=
  s.readyToFetch.placeBytes (tableBytes nbits w).1 (tableBytes nbits w).2

end Sys2Proof.Machine
end

