-- ==== Sys2Proof/Machine/Devices.lean ====
section
/-! DEFINITION. What the outside world sees of the chip (spec/60_exceptions.md R233 to R237), the clock ratios (R226, R228,
R233) and the cycle counts (R259). Views only: no step reads them. -/

namespace Sys2Proof.Machine

/-- The level of an output pin. -/
inductive PinLevel where
  | low | high
  /-- An open-drain output with latch bit 1 (R237). -/
  | floating
  deriving DecidableEq, Repr

/-- A PA pin from its latch bit (R237, G11). -/
def outputLevel (t : PinType) (bit : Bool) : PinLevel :=
  match t, bit with
  | _, false => .low
  | .cmos, true => .high
  | .openDrain, true => .floating

/-- The pins PA0 and PA1 (R17, R237). -/
def State.pa0Level (s : State) : PinLevel := outputLevel s.config.pa0Type (s.pa.getLsbD 0)
def State.pa1Level (s : State) : PinLevel := outputLevel s.config.pa1Type (s.pa.getLsbD 1)

/-- The LCD driver's output is on (R235). -/
def State.lcdOn (s : State) : Bool := s.pa.getLsbD 2

/-- The display area, 9CH to FFH (R42). -/
def displayBase : Nat := 0x9C
def displaySize : Nat := 100

/-- What the LCD driver drives: the display area's nibbles in address order, or nothing while the output is off (R234,
R235). The map from bits to dots is not in the source (R4 (e)). -/
def State.lcdOutput (s : State) : Option (List Nibble) :=
  if s.lcdOn then some ((List.range displaySize).map fun k => s.ram.read (displayBase + k)) else none

/-- The pin BZ: high while no sound plays (R32; log entry 28), and a level nothing fixes while one does. DESIGN CHOICE
(log entry 28): the level is that of the present draw, so it stays across every step that draws nothing, NOP among them;
the spec is silent on when it changes. No statement rests on this. -/
def State.bzLevel (s : State) : Bool := !s.sndOn || s.anyBit .bz

/-- The pin BZ-bar, as `State.bzLevel`, with the same DESIGN CHOICE on when its level can change (log entry 28). -/
def State.bzBarLevel (s : State) : Bool := !s.sndOn || s.anyBit .bzBar

/-- How many notes a sound has (R195, R233). -/
def soundNotes (channel : Nibble) : Nat := if channel.toNat < 12 then 32 else 64

/-- System clocks for one timer tick, `2^n` (R226). -/
def timerClockDivisor (c : Config) : Nat := 2 ^ c.timerDiv.val

/-- System clocks for one sound clock, `2^m` (R233). -/
def soundClockDivisor (c : Config) : Nat := 2 ^ c.soundDiv.val

/-- RTC events in a second, `256 / 2^n` (R228). -/
def rtcEventsPerSecond (c : Config) : Nat := 256 / 2 ^ c.rtcDiv.val

/-- System-clock periods in one machine cycle (R258). -/
def clocksPerCycle : Nat := 4

/-- Machine cycles of an instruction (R259, G5; PRESUMED, log entry 32): its length in bytes, and 2 for the one-byte
table reads. DESIGN CHOICE (log entry 32): a conditional jump counts 2 whether it is taken or not; R259 says that the
source does not state whether the two cost the same. -/
def cyclesOf (i : Instr) : Nat :=
  if i = .readR4A ∨ i = .readfR4A ∨ i = .readMr0A ∨ i = .readfMr0A then 2 else i.length

end Sys2Proof.Machine
end

