-- ==== Sys2Proof/Safety.lean ====
section
/-! DEFINITION. The terms claims are stated in: pieces of state and frames, what one instruction does, the data-memory
location an instruction stores to, and the invariant of the machine. -/

namespace Sys2Proof.Machine

/-- A piece of the state. Memory is named byte by byte. -/
inductive Piece where
  | acc | cf
  | reg (r : Reg)
  | pc | pa | stackPc | stackCf | sub | ie | rtcl | timer | ton | tf | halted | sndOn | sndCh | sndLoop
  | ram (a : DataAddr)
  | rom (bank : Bool) (a : CodeAddr)
  | config | ps | pp | resetHeld | schedule | stackByCall | free
  deriving DecidableEq, Repr

/-- Two states agree on a piece. -/
def Piece.Same (s t : State) : Piece → Prop
  | .acc => t.acc = s.acc
  | .cf => t.cf = s.cf
  | .reg r => t.reg r = s.reg r
  | .pc => t.pc = s.pc
  | .pa => t.pa = s.pa
  | .stackPc => t.stackPc = s.stackPc
  | .stackCf => t.stackCf = s.stackCf
  | .sub => t.sub = s.sub
  | .ie => t.ie = s.ie
  | .rtcl => t.rtcl = s.rtcl
  | .timer => t.timer = s.timer
  | .ton => t.ton = s.ton
  | .tf => t.tf = s.tf
  | .halted => t.halted = s.halted
  | .sndOn => t.sndOn = s.sndOn
  | .sndCh => t.sndCh = s.sndCh
  | .sndLoop => t.sndLoop = s.sndLoop
  | .ram a => t.load a = s.load a
  | .rom bank a => t.romRead bank a = s.romRead bank a
  | .config => t.config = s.config
  | .ps => t.ps = s.ps
  | .pp => t.pp = s.pp
  | .resetHeld => t.resetHeld = s.resetHeld
  | .schedule => t.schedule = s.schedule
  | .stackByCall => t.stackByCall = s.stackByCall
  | .free => t.free = s.free

/-- THE FRAME: every piece outside `changed` is the same in `t` as in `s`. -/
def Frame (changed : List Piece) (s t : State) : Prop := ∀ p, p ∉ changed → p.Same s t

/-- The state an outcome carries, if it is a next state. -/
def nextOf : Host.Outcome State Fault Refusal → Option State
  | .next t => some t
  | .fault _ => none
  | .refused _ => none

/-- The data-memory location an instruction stores to, computed as its meaning computes it (R41, R49). -/
def storeAddr (i : Instr) (s : State) : Option DataAddr :=
  match i with
  | .movM10A | .incM10 | .decM10 | .andM10A | .xorM10A | .orM10A | .readMr0A | .readfMr0A => some (s.pairAddr .p10)
  | .movM32A | .incM32 | .decM32 => some (s.pairAddr .p32)
  | .rrA | .rlA | .rrcA | .rlcA | .movAM10 | .movAM32 | .adcAM10 | .addAM10 | .sbcAM10 | .subAM10 | .incR0
  | .decR0 | .incR1 | .decR1 | .incR2 | .decR2 | .incR3 | .decR3 | .incR4 | .decR4 | .andAM10 | .xorAM10
  | .orAM10 | .movR0A | .movAR0 | .movR1A | .movAR1 | .movR2A | .movAR2 | .movR3A | .movAR3 | .movR4A
  | .movAR4 | .clc | .stc | .ei | .di | .ret | .reti | .outPaA | .incA | .inAPs | .inAPp | .daa | .halt
  | .timerOn | .timerOff | .movATmrl | .movATmrh | .movTmrlA | .movTmrhA | .nop | .decA | .addAImm _
  | .subAImm _ | .andAImm _ | .xorAImm _ | .orAImm _ | .soundImm _ | .movR4Imm _ | .timerImm _ | .soundOne
  | .soundLoop | .soundOff | .soundA | .readR4A | .readfR4A | .movR1R0Imm _ | .movR3R2Imm _ | .movAImm _
  | .ja0 _ | .ja1 _ | .ja2 _ | .ja3 _ | .jnzR0 _ | .jnzR1 _ | .jzA _ | .jnzA _ | .jc _ | .jnc _ | .jtmr _
  | .jnzR4 _ | .jmp _ | .call _ => none

/-- The instructions that write CF (R11). -/
def writesCarry : Instr → Bool
  | .rrA | .rlA | .rrcA | .rlcA | .adcAM10 | .addAM10 | .sbcAM10 | .subAM10 | .clc | .stc | .reti | .daa
  | .addAImm _ | .subAImm _ => true
  | .movAM10 | .movM10A | .movAM32 | .movM32A | .incM10 | .decM10 | .incM32 | .decM32 | .incR0 | .decR0
  | .incR1 | .decR1 | .incR2 | .decR2 | .incR3 | .decR3 | .incR4 | .decR4 | .andAM10 | .xorAM10 | .orAM10
  | .andM10A | .xorM10A | .orM10A | .movR0A | .movAR0 | .movR1A | .movAR1 | .movR2A | .movAR2 | .movR3A
  | .movAR3 | .movR4A | .movAR4 | .ei | .di | .ret | .outPaA | .incA | .inAPs | .inAPp | .halt | .timerOn
  | .timerOff | .movATmrl | .movATmrh | .movTmrlA | .movTmrhA | .nop | .decA | .andAImm _ | .xorAImm _
  | .orAImm _ | .soundImm _ | .movR4Imm _ | .timerImm _ | .soundOne | .soundLoop | .soundOff | .soundA
  | .readR4A | .readfR4A | .readMr0A | .readfMr0A | .movR1R0Imm _ | .movR3R2Imm _ | .movAImm _ | .ja0 _
  | .ja1 _ | .ja2 _ | .ja3 _ | .jnzR0 _ | .jnzR1 _ | .jzA _ | .jnzA _ | .jc _ | .jnc _ | .jtmr _ | .jnzR4 _
  | .jmp _ | .call _ => false

/-- The instructions that read CF (R11). -/
def readsCarry : Instr → Bool
  | .rrcA | .rlcA | .adcAM10 | .sbcAM10 | .daa | .jc _ | .jnc _ => true
  | .rrA | .rlA | .movAM10 | .movM10A | .movAM32 | .movM32A | .addAM10 | .subAM10 | .incM10 | .decM10
  | .incM32 | .decM32 | .incR0 | .decR0 | .incR1 | .decR1 | .incR2 | .decR2 | .incR3 | .decR3 | .incR4
  | .decR4 | .andAM10 | .xorAM10 | .orAM10 | .andM10A | .xorM10A | .orM10A | .movR0A | .movAR0 | .movR1A
  | .movAR1 | .movR2A | .movAR2 | .movR3A | .movAR3 | .movR4A | .movAR4 | .clc | .stc | .ei | .di | .ret
  | .reti | .outPaA | .incA | .inAPs | .inAPp | .halt | .timerOn | .timerOff | .movATmrl | .movATmrh
  | .movTmrlA | .movTmrhA | .nop | .decA | .addAImm _ | .subAImm _ | .andAImm _ | .xorAImm _ | .orAImm _
  | .soundImm _ | .movR4Imm _ | .timerImm _ | .soundOne | .soundLoop | .soundOff | .soundA | .readR4A
  | .readfR4A | .readMr0A | .readfMr0A | .movR1R0Imm _ | .movR3R2Imm _ | .movAImm _ | .ja0 _ | .ja1 _
  | .ja2 _ | .ja3 _ | .jnzR0 _ | .jnzR1 _ | .jzA _ | .jnzA _ | .jtmr _ | .jnzR4 _ | .jmp _ | .call _ => false

/-- The instruction answers the next state `t`, and nothing outside `changed` differs there. -/
def Completes (i : Instr) (s t : State) (changed : List Piece) : Prop := exec i s = .next t ∧ Frame changed s t

/-- ACC and CF of `t` hold a sum as the arithmetic law writes it (R107). -/
def HoldsSum (t : State) (sum : Nat) : Prop := t.acc.toNat = sum % 16 ∧ (t.cf = true ↔ 16 ≤ sum)

/-- ACC and CF of `t` hold a difference: CF is 1 exactly when there is no borrow (R107). -/
def HoldsDifference (t : State) (minuend subtrahend : Nat) : Prop :=
  t.acc.toNat = (16 + minuend - subtrahend) % 16 ∧ (t.cf = true ↔ subtrahend ≤ minuend)

/-- PC of `t` after a conditional jump from `s`, whose `pc` is `npc` (R168). -/
def JumpsIf (s t : State) (cond : Prop) (addr : JumpAddr) : Prop :=
  (cond → t.pc.toNat % 2048 = addr.toNat ∧
    (s.config.jumpPc11 = .next → t.pc.getLsbD 11 = s.pc.getLsbD 11) ∧
    (s.config.jumpPc11 = .own → t.pc.getLsbD 11 = (s.pc - 2).getLsbD 11)) ∧
  (¬cond → t.pc = s.pc)

/-- The one-byte encoding of an instruction (R70). -/
def OneByte (b0 : Byte) (i : Instr) : Prop := ∀ c b1, decode c b0 b1 = .ok i

/-- The one-byte encoding of an instruction, under `ADMIT_UNSOURCED` (R73). -/
def OneByteAdmitted (b0 : Byte) (i : Instr) : Prop := ∀ c b1, c.admitUnsourced = true → decode c b0 b1 = .ok i

/-- Format `IMM4` (R61, R64, R72): the second byte is 0000 and the immediate, and no other second byte will do. -/
def Imm4Form (b0 : Byte) (i : Nibble → Instr) : Prop :=
  (∀ c d, decode c b0 (0#4 ++ d) = .ok (i d)) ∧
  ∀ c b1, 16 ≤ b1.toNat → decode c b0 b1 = .bad (.malformedSecond b0 b1)

/-- Format `IMM4`, under `ADMIT_UNSOURCED` (R73). -/
def Imm4Admitted (b0 : Byte) (i : Nibble → Instr) : Prop :=
  (∀ c d, c.admitUnsourced = true → decode c b0 (0#4 ++ d) = .ok (i d)) ∧
  ∀ c b1, c.admitUnsourced = true → 16 ≤ b1.toNat → decode c b0 b1 = .bad (.malformedSecond b0 b1)

/-- Format `ADDR11` (R61, R68). -/
def Addr11Form (op : BitVec 5) (i : JumpAddr → Instr) : Prop :=
  ∀ c (hi : BitVec 3) (lo : Byte), decode c (op ++ hi) lo = .ok (i (hi ++ lo))

/-- Format `ADDR12` (R61, R67). -/
def Addr12Form (op : Nibble) (i : CodeAddr → Instr) : Prop :=
  ∀ c (hi : Nibble) (lo : Byte), decode c (op ++ hi) lo = .ok (i (hi ++ lo))

/-- The key in `rom` of the byte at 12-bit address `a` of the current bank (R14, R43). -/
def bankedKey (s : State) (a : Nat) : Nat := (if s.pa.getLsbD 3 then 4096 else 0) + a % 4096

/-- The step from `s` is a move of the CPU, running and with no interrupt to enter first, and the bytes at PC decode
to `i` (R15, R215). -/
def CpuRuns (s : State) (i : Instr) : Prop :=
  ∃ d rest, s.schedule = .cpu d :: rest ∧ s.resetHeld = false ∧ s.halted = false ∧
    ((s.ie && !s.sub && (s.rtcl || s.tf)) = false ∨ (d = true ∧ s.config.intLatency = .any)) ∧
    decode s.config (s.rom.read (bankedKey s s.pc.toNat)) (s.rom.read (bankedKey s (s.pc.toNat + 1))) = .ok i

/-- The pin is high: driven so, or unconnected with its pull-high resistor (R150, R236). -/
def Pins.IsHigh (p : Pins) (pullHigh : Nibble) (k : Fin 4) : Prop :=
  p.drive k = .high ∨ (p.drive k = .unconnected ∧ pullHigh.getLsbD k = true)

/-- The pin is low: driven so. -/
def Pins.IsLow (p : Pins) (k : Fin 4) : Prop := p.drive k = .low

/-- The state after `n` steps, if all of them answer a next state. -/
def runFor : Nat → State → Option State
  | 0, s => some s
  | n + 1, s => (nextOf (step s)).bind (runFor n)

/-- What reset gives and RES low holds (R32, R251). RTCL is not among it: reset clears it, and the RTC goes on (R240). -/
def State.atReset (s : State) : Bool :=
  decide (s.pc = 0x000) && decide (s.pa = 0b1011) && !s.ton && !s.tf && !s.sndOn && !s.sndLoop && !s.ie &&
  !s.halted && !s.sub

/-- THE INVARIANT: both memories keep their canonical form inside their address spaces, and a chip held in reset stays
in its reset state. -/
abbrev State.Inv (s : State) : Prop :=
  s.ram.wf ramSize = true ∧ s.rom.wf romSize = true ∧ (s.resetHeld = true → s.atReset = true)

end Sys2Proof.Machine
end

