-- ==== Sys2Proof/Certificates/Slice0/Obligations.lean ====
section
/-! DEFINITION. The statements for the provers, one `def Obligations.<Name> : Prop` each, listed in OBLIGATIONS.json. -/

open Sys2Proof Sys2Proof.Machine

/-- Decoding the encoding of a well-formed instruction gives it back (spec/30_encoding.md R61 to R73).
It rests on choices: log entries 9, 10, 16. -/
def Obligations.DecodeStreamInvertsEncode : Prop :=
  ∀ (c : Config) (i : Instr) (rest : List Byte), i.wellFormed c = true →
    decodeStream c (encode c i ++ rest) = some (i, rest)

/-- Every two bytes that decode are the encoding of what they decode to (spec/30_encoding.md R77).
It rests on choices: log entries 9, 10, 16. -/
def Obligations.EncodeInvertsDecode : Prop :=
  ∀ (c : Config) (b0 b1 : Byte) (i : Instr), decode c b0 b1 = .ok i →
    i.wellFormed c = true ∧ encode c i = if i.length = 1 then [b0] else [b0, b1]

/-- The first byte alone decides the length of an instruction (spec/30_encoding.md R60).
It rests on choices: log entry 10. -/
def Obligations.FirstByteDecidesLength : Prop :=
  ∀ (c : Config) (b0 b1 : Byte) (i : Instr), decode c b0 b1 = .ok i →
    (i.length = 1 ∨ i.length = 2) ∧
    (i.length = 2 ↔ b0.toNat = 0x37 ∨ (0x40 ≤ b0.toNat ∧ b0.toNat ≤ 0x47) ∨
      (0x50 ≤ b0.toNat ∧ b0.toNat ≤ 0x6F) ∨ 0x80 ≤ b0.toNat)

/-- The decoder refuses exactly the undefined encodings, each by its own name (spec/30_encoding.md R71, R72, R73, R77).
It rests on choices: log entries 10, 19. -/
def Obligations.DecodeRefusesExactlyUndefinedBytes : Prop :=
  ∀ (c : Config) (b0 b1 : Byte),
    let lost := c.admitUnsourced = false ∧
      b0 ∈ [0x0B#8, 0x1B, 0x1E, 0x2B, 0x38, 0x39, 0x41, 0x43, 0x45, 0x47, 0x48, 0x49, 0x4A]
    let malformed := (b0 = 0x37#8 ∧ b1 ≠ 0x3E#8) ∨
      (((0x40 ≤ b0.toNat ∧ b0.toNat ≤ 0x46) ∨ (0x50 ≤ b0.toNat ∧ b0.toNat ≤ 0x6F)) ∧ 16 ≤ b1.toNat)
    (b0 = 0x32#8 ∨ b0 = 0x35#8 → decode c b0 b1 = .bad (.illegalFirst b0)) ∧
    (lost → ∃ i, i.unsourced = true ∧ decode c b0 b1 = .bad (.unsourced i)) ∧
    (¬lost → malformed → decode c b0 b1 = .bad (.malformedSecond b0 b1)) ∧
    (¬(b0 = 0x32#8 ∨ b0 = 0x35#8) → ¬lost → ¬malformed → ∃ i, decode c b0 b1 = .ok i)

/-- Words written out from the encodings decode to their instructions (spec/30_encoding.md R61 to R73).
It rests on choices: log entries 9, 10, 16. -/
def Obligations.SampleWordsDecode : Prop :=
  decode Config.default 0b00001001 0 = .ok .addAM10 ∧
    decode Config.default 0b00011000 0 = .ok .incR4 ∧
    decode Config.default 0b00100111 0 = .ok .movAR3 ∧
    decode Config.default 0b01000000 0b00000110 = .ok (.addAImm 6) ∧
    decode Config.default 0b01011100 0b00001001 = .ok (.movR1R0Imm 0x9C) ∧
    decode Config.default 0b01111100 0 = .ok (.movAImm 12) ∧
    decode Config.default 0b10010111 0b11111111 = .ok (.ja2 0x7FF) ∧
    decode Config.default 0b11101010 0b10111100 = .ok (.jmp 0xABC) ∧
    decode Config.default 0b00110111 0b00111110 = .ok .halt ∧
    decode Config.default 0b01000111 0b00111100 = .ok (.timerImm 0x3C)

/-- A step runs the instruction decoded at the program counter (spec/10_state.md R14, R15, R16).
It rests on choices: log entries 8, 10, 17, 19. -/
def Obligations.StepRunsDecodedInstruction : Prop :=
  ∀ (s : State) (d : Bool) (rest : List Move), s.schedule = .cpu d :: rest → s.resetHeld = false → s.halted = false →
    ((s.ie && !s.sub && (s.rtcl || s.tf)) = false ∨ (d = true ∧ s.config.intLatency = .any)) →
    (∀ i, decode s.config (s.rom.read (bankedKey s s.pc.toNat)) (s.rom.read (bankedKey s (s.pc.toNat + 1))) = .ok i →
      step s = exec i { s with schedule := rest, pc := s.pc + BitVec.ofNat 12 i.length }) ∧
    (∀ e, decode s.config (s.rom.read (bankedKey s s.pc.toNat)) (s.rom.read (bankedKey s (s.pc.toNat + 1))) = .bad e →
      step s = .refused (refusalOf e))

/-- An acceptable interrupt is entered: PC and CF saved, RTC before timer, vector in the current bank (spec/60_exceptions.md R215 to R218).
It rests on choices: log entries 8, 18. -/
def Obligations.StepTakesInterrupt : Prop :=
  ∀ (s : State) (d : Bool) (rest : List Move), s.schedule = .cpu d :: rest → s.resetHeld = false → s.halted = false →
    s.ie = true → s.sub = false → (s.rtcl = true ∨ s.tf = true) → (d = false ∨ s.config.intLatency = .zero) →
    ∃ t, step s = .next t ∧
      Frame [.stackPc, .stackCf, .sub, .stackByCall, .pc, .rtcl, .tf, .schedule] s t ∧
      t.stackPc = s.pc ∧ t.stackCf = s.cf ∧ t.sub = true ∧ t.stackByCall = false ∧ t.schedule = rest ∧
      (s.rtcl = true → t.rtcl = false ∧ t.pc = 0x008 ∧ t.tf = s.tf) ∧
      (s.rtcl = false → t.rtcl = false ∧ t.pc = 0x004 ∧ t.tf = false)

/-- A halted CPU, or one held in reset, changes nothing when it moves (spec/10_state.md R26, spec/60_exceptions.md R240, spec/70_reset_and_hazards.md R251). -/
def Obligations.WaitingCpuChangesNothing : Prop :=
  ∀ (s : State) (d : Bool) (rest : List Move), s.schedule = .cpu d :: rest → (s.halted = true ∨ s.resetHeld = true) →
    step s = .next { s with schedule := rest }

/-- The state after reset meets the invariant (the model's invariant `State.Inv`). -/
def Obligations.ResetStateMeetsInvariant : Prop :=
  State.reset.Inv

/-- Every step keeps the invariant (the model's invariant `State.Inv`; spec/20_memory.md R41, R43, spec/70_reset_and_hazards.md R251). -/
def Obligations.EveryStepKeepsInvariant : Prop :=
  ∀ s t : State, s.Inv → step s = .next t → t.Inv

/-- No step changes the program memory or the configuration (spec/00_scope.md R5, R6, spec/20_memory.md R53). -/
def Obligations.StepsKeepProgramMemoryAndConfig : Prop :=
  ∀ s t : State, step s = .next t → t.rom = s.rom ∧ t.config = s.config

/-- Only OUT PA,A and reset change PA, and so the ROM bank (spec/10_state.md R17, R18, spec/20_memory.md R43).
It rests on choices: log entries 15, 17, 27. -/
def Obligations.PortLatchChangesOnlyByOutOrReset : Prop :=
  ∀ s t : State, step s = .next t →
    t.pa = s.pa ∨
    ((∃ rest, s.schedule = .resPin true :: rest) ∧ t.resetHeld = true ∧ t.pa = 0b1011) ∨
    (CpuRuns s .outPaA ∧ t.pa = s.acc)

/-- Only the listed instructions write CF, and only the listed ones read it (spec/10_state.md R11).
It rests on choices: log entries 12, 13. -/
def Obligations.CarryFlowsOnlyThroughListedInstructions : Prop :=
  ∀ (i : Instr) (s : State),
    (writesCarry i = false → ∀ t, exec i s = .next t → t.cf = s.cf) ∧
    (readsCarry i = false → ∀ c : Bool, nextOf (exec i { s with cf := c }) =
      (nextOf (exec i s)).map fun t => if writesCarry i then t else { t with cf := c })

/-- RTCL, IE, TF, SUB, HALTED and TON are written by no instruction but their own (spec/10_state.md R20 to R26).
It rests on choices: log entries 18, 25, 26. -/
def Obligations.ControlBitsHaveOnlyTheirWriters : Prop :=
  ∀ (i : Instr) (s t : State), exec i s = .next t →
    t.rtcl = s.rtcl ∧
    (i ≠ .ei → i ≠ .di → t.ie = s.ie) ∧
    ((∀ a, i ≠ .jtmr a) → t.tf = s.tf) ∧
    ((∀ a, i ≠ .call a) → i ≠ .ret → i ≠ .reti → t.sub = s.sub) ∧
    (i ≠ .halt → t.halted = s.halted) ∧
    (i ≠ .timerOn → i ≠ .timerOff → t.ton = s.ton)

/-- An instruction changes at most the one data-memory location its pair addresses (spec/20_memory.md R41, R49). -/
def Obligations.InstructionStoresAtMostOneLocation : Prop :=
  ∀ (i : Instr) (s t : State) (a : DataAddr), exec i s = .next t → storeAddr i s ≠ some a → t.load a = s.load a

/-- Every instruction completes, but for CALL with SUB = 1 and RET or RETI with SUB = 0 (spec/60_exceptions.md R210, spec/47_subroutine_flag_nop.md R170 to R172).
It rests on choices: log entry 20. -/
def Obligations.ExecCompletesButForStackMisuse : Prop :=
  ∀ (i : Instr) (s : State),
    ((∃ a, i = .call a) → s.sub = true → exec i s = .fault .callWhileStackInUse) ∧
    (i = .ret ∨ i = .reti → s.sub = false → exec i s = .fault .returnWithEmptyStack) ∧
    (¬((∃ a, i = .call a) ∧ s.sub = true) → ¬((i = .ret ∨ i = .reti) ∧ s.sub = false) → ∃ t, exec i s = .next t)

/-- While SUB = 1 nothing but a reset writes the stack (spec/60_exceptions.md R215, R221).
It rests on choices: log entries 18, 20. -/
def Obligations.StackKeptWhileInUse : Prop :=
  ∀ s t : State, s.sub = true → step s = .next t → t.resetHeld = false →
    t.stackPc = s.stackPc ∧ t.stackCf = s.stackCf ∧ t.stackByCall = s.stackByCall

/-- An interrupt routine of any length that ends with RETI returns to the interrupted program (spec/60_exceptions.md R217 to R221, R241, spec/47_subroutine_flag_nop.md R172).
It rests on choices: log entries 18, 20. -/
def Obligations.RoutineReturnsToInterruptedProgram : Prop :=
  ∀ (s u : State) (n : Nat), s.interruptReady = true → runFor n s.takeInterrupt = some u →
    (∀ k v, k ≤ n → runFor k s.takeInterrupt = some v → v.sub = true ∧ v.resetHeld = false) →
    ∃ t, exec .reti u = .next t ∧ t.pc = s.pc ∧ t.cf = s.cf ∧ t.sub = false

/-- The count step: count up, and from FFH to 00H with TF set (spec R225). -/
def Obligations.TimerCountStep : Prop :=
  ∀ (s : State) (rest : List Move), s.schedule = .timerTick :: rest →
    ∃ t, step s = .next t ∧ Frame [.timer, .tf, .schedule] s t ∧ t.schedule = rest ∧
      (s.ton = true → s.halted = false →
        (s.timer = 0xFF → t.timer = 0x00 ∧ t.tf = true) ∧
        (s.timer ≠ 0xFF → t.timer.toNat = s.timer.toNat + 1 ∧ t.tf = s.tf)) ∧
      (s.ton = false ∨ s.halted = true → t.timer = s.timer ∧ t.tf = s.tf)

/-- A timer preset to 256 - k overflows at the k-th tick and not before (spec/48_timer_tableread.md R180, spec/60_exceptions.md R225).
It rests on choices: log entry 25. -/
def Obligations.PresetTimerOverflowsAfterItsTicks : Prop :=
  ∀ (s : State) (k : Nat), 1 ≤ k → k ≤ 256 → s.ton = true → s.halted = false → s.tf = false →
    s.timer.toNat = (256 - k) % 256 → s.schedule = List.replicate k .timerTick →
    (∃ t, runFor k s = some t ∧ t.timer = 0x00 ∧ t.tf = true) ∧
    (∀ j, j < k → ∃ u, runFor j s = some u ∧ u.tf = false)

/-- An RTC event sets RTCL and ends HALT mode (spec/60_exceptions.md R240, R228, R230, spec/10_state.md R25).
It rests on choices: log entries 26, 27. -/
def Obligations.RtcEventLatchesAndWakes : Prop :=
  ∀ (s : State) (rest : List Move), s.schedule = .rtcEvent :: rest →
    ∃ t, step s = .next t ∧ Frame [.rtcl, .halted, .schedule] s t ∧ t.schedule = rest ∧
      t.rtcl = true ∧ t.halted = false

/-- A falling edge on an enabled pin ends HALT mode, and pins do nothing else (spec/60_exceptions.md R232, R236, spec/45_io.md R150).
It rests on choices: log entries 23, 24. -/
def Obligations.PinsWakeByFallingEdge : Prop :=
  ∀ (s : State) (rest : List Move) (ps pp : Pins), s.schedule = .pins ps pp :: rest →
    ∃ t, step s = .next t ∧ Frame [.ps, .pp, .halted, .schedule, .free] s t ∧
      t.ps = ps ∧ t.pp = pp ∧ t.schedule = rest ∧ (s.halted = false → t.halted = false) ∧
      ((∃ k : Fin 4,
        (s.config.wakePs.getLsbD k = true ∧ s.ps.IsHigh s.config.pullHighPs k ∧ ps.IsLow k) ∨
        (s.config.wakePp.getLsbD k = true ∧ s.pp.IsHigh s.config.pullHighPp k ∧ pp.IsLow k)) → t.halted = false) ∧
      ((∀ k : Fin 4,
        (s.config.wakePs.getLsbD k = false ∨ s.ps.IsLow k ∨ ps.IsHigh s.config.pullHighPs k) ∧
        (s.config.wakePp.getLsbD k = false ∨ s.pp.IsLow k ∨ pp.IsHigh s.config.pullHighPp k)) → t.halted = s.halted)

/-- At its end a sound stops in SONE mode and goes on in SLOOP mode (spec/60_exceptions.md R229, R233).
It rests on choices: log entry 28. -/
def Obligations.SoundEndFollowsMode : Prop :=
  ∀ (s : State) (rest : List Move), s.schedule = .soundEnd :: rest →
    ∃ t, step s = .next t ∧ Frame [.sndOn, .schedule] s t ∧ t.schedule = rest ∧
      (s.sndOn = true → s.halted = false → t.sndOn = s.sndLoop) ∧
      (s.sndOn = false ∨ s.halted = true → t.sndOn = s.sndOn)

/-- An RTC event in HALT mode wakes into the RTC routine, or into the program when interrupts are held (spec/60_exceptions.md R215, R231).
It rests on choices: log entries 8, 18, 19. -/
def Obligations.RtcWakeEntersOrContinues : Prop :=
  ∀ (s : State) (d : Bool) (rest : List Move), s.halted = true → s.resetHeld = false →
    s.schedule = .rtcEvent :: .cpu d :: rest →
    (s.ie = true → s.sub = false → (d = false ∨ s.config.intLatency = .zero) →
      ∃ t, runFor 2 s = some t ∧ t.halted = false ∧ t.rtcl = false ∧ t.sub = true ∧ t.stackPc = s.pc ∧ t.pc = 0x008 ∧
        t.schedule = rest) ∧
    (s.ie = false ∨ s.sub = true ∨ (d = true ∧ s.config.intLatency = .any) →
      ∃ t, runFor 1 s = some t ∧ t.halted = false ∧ t.rtcl = true ∧ t.pc = s.pc ∧ t.sub = s.sub ∧
        (∀ i, t.fetched = .ok i → step t = exec i { t with schedule := rest, pc := t.pc + BitVec.ofNat 12 i.length }) ∧
        (∀ e, t.fetched = .bad e → step t = .refused (refusalOf e)))

/-- RES low puts the chip in its reset state and holds it; RES high lets it fetch at 1000H (spec/70_reset_and_hazards.md R250, R251, spec/10_state.md R32).
It rests on choices: log entries 4, 27, 28. -/
def Obligations.ResetPinGivesResetState : Prop :=
  (∀ (s : State) (rest : List Move), s.schedule = .resPin true :: rest →
      ∃ t, step s = .next t ∧ t.resetHeld = true ∧ t.schedule = rest ∧ t.pc = 0x000 ∧ t.pa = 0b1011 ∧ t.ton = false ∧
        t.tf = false ∧ t.sndOn = false ∧ t.sndLoop = false ∧ t.ie = false ∧ t.halted = false ∧ t.sub = false ∧
        t.rtcl = false ∧ t.lcdOn = false ∧ t.bzLevel = true ∧ t.bzBarLevel = true ∧
        t.rom = s.rom ∧ t.config = s.config ∧ t.ps = s.ps ∧ t.pp = s.pp) ∧
    (∀ (s : State) (m : Move), s.resetHeld = true → s.atReset = true → m ≠ .rtcEvent → (∀ ps pp, m ≠ .pins ps pp) →
      (∀ low, m ≠ .resPin low) → runMove m s = .next s) ∧
    (∀ s : State, s.resetHeld = true → s.atReset = true → runMove .rtcEvent s = .next { s with rtcl := true }) ∧
    (∀ (s : State) (rest : List Move), s.schedule = .resPin false :: rest →
      step s = .next { s with schedule := rest, resetHeld := false }) ∧
    (∀ s : State, s.atReset = true → s.firstByte = s.rom.read 0x1000)

/-- The state after reset holds the reset values the spec gives (spec/10_state.md R32).
It rests on choices: log entries 4, 28. -/
def Obligations.StateAfterReset : Prop :=
  State.reset.pc = 0x000 ∧ State.reset.pa = 0b1011 ∧ State.reset.bank = true ∧ State.reset.lcdOn = false ∧
    State.reset.ton = false ∧ State.reset.tf = false ∧
    State.reset.sndOn = false ∧ State.reset.sndLoop = false ∧ State.reset.ie = false ∧ State.reset.halted = false ∧
    State.reset.sub = false ∧ State.reset.rtcl = false ∧ State.reset.bzLevel = true ∧ State.reset.bzBarLevel = true ∧
    State.reset.firstByte = State.reset.rom.read 0x1000 ∧
    ∀ c : Config,
      (c.pa0Type = .cmos → { State.reset with config := c }.pa0Level = .high) ∧
      (c.pa0Type = .openDrain → { State.reset with config := c }.pa0Level = .floating) ∧
      (c.pa1Type = .cmos → { State.reset with config := c }.pa1Level = .high) ∧
      (c.pa1Type = .openDrain → { State.reset with config := c }.pa1Level = .floating)

/-- Two memories in canonical form that read alike everywhere are the same list (the model's canonical form of spec/20_memory.md R41, R43). -/
def Obligations.EqualReadsMeanEqualMemories : Prop :=
  ∀ (w size : Nat) (m m' : Memory w), m.wf size = true → m'.wf size = true → (∀ a, m.read a = m'.read a) → m = m'

/-- ADD and ADC write the 4-bit sum to ACC and its carry to CF, and nothing else (spec/40_arithmetic.md R100, R101, R104, R107).
It rests on choices: log entries 12, 19. -/
def Obligations.AdditionsWriteSumAndCarry : Prop :=
  OneByte 0x09 .addAM10 ∧ OneByte 0x08 .adcAM10 ∧ Imm4Form 0x40 .addAImm ∧
    ∀ s : State,
      (∃ t, Completes .addAM10 s t [.acc, .cf] ∧ HoldsSum t (s.acc.toNat + (s.loadPair .p10).toNat)) ∧
      (∃ t, Completes .adcAM10 s t [.acc, .cf] ∧ HoldsSum t (s.acc.toNat + (s.loadPair .p10).toNat + s.cf.toNat)) ∧
      (∀ d, ∃ t, Completes (.addAImm d) s t [.acc, .cf] ∧ HoldsSum t (s.acc.toNat + d.toNat))

/-- SBC subtracts memory and the complement of CF; CF is 1 when no borrow takes place (spec/40_arithmetic.md R103, spec/90_conflicts.md C2).
It rests on choices: log entry 14. -/
def Obligations.SubtractWithBorrowWritesDifference : Prop :=
  OneByte 0x0A .sbcAM10 ∧
    ∀ s : State, ∃ t, Completes .sbcAM10 s t [.acc, .cf] ∧
      HoldsDifference t s.acc.toNat ((s.loadPair .p10).toNat + (1 - s.cf.toNat))

/-- SUB writes the difference to ACC and no-borrow to CF (spec/40_arithmetic.md R102, R105).
It rests on choices: log entries 10, 12, 19. -/
def Obligations.SubtractionsWithoutBorrowInput : Prop :=
  OneByteAdmitted 0x0B .subAM10 ∧ Imm4Admitted 0x41 .subAImm ∧
    ∀ s : State,
      (∃ t, Completes .subAM10 s t [.acc, .cf] ∧ HoldsDifference t s.acc.toNat (s.loadPair .p10).toNat) ∧
      (∀ d, ∃ t, Completes (.subAImm d) s t [.acc, .cf] ∧ HoldsDifference t s.acc.toNat d.toNat)

/-- DAA adds 6 and sets CF when ACC is above 9 or CF is 1, and else changes nothing (spec/40_arithmetic.md R106).
It rests on choices: log entry 12. -/
def Obligations.DecimalAdjustAddsSix : Prop :=
  OneByte 0x36 .daa ∧
    ∀ s : State, ∃ t, Completes .daa s t [.acc, .cf] ∧
      (9 < s.acc.toNat ∨ s.cf = true → t.acc.toNat = (s.acc.toNat + 6) % 16 ∧ t.cf = true) ∧
      (s.acc.toNat ≤ 9 → s.cf = false → t.acc = s.acc ∧ t.cf = s.cf)

/-- AND and OR with memory or an immediate write ACC bit by bit and leave CF (spec/41_logic.md R110, R111, R116, R117, R119).
It rests on choices: log entries 13, 19. -/
def Obligations.AndOrIntoAccumulator : Prop :=
  OneByte 0x1A .andAM10 ∧ OneByte 0x1C .orAM10 ∧ Imm4Form 0x42 .andAImm ∧ Imm4Form 0x44 .orAImm ∧
    ∀ s : State,
      (∃ t, Completes .andAM10 s t [.acc] ∧
        ∀ k, t.acc.getLsbD k = (s.acc.getLsbD k && (s.loadPair .p10).getLsbD k)) ∧
      (∃ t, Completes .orAM10 s t [.acc] ∧
        ∀ k, t.acc.getLsbD k = (s.acc.getLsbD k || (s.loadPair .p10).getLsbD k)) ∧
      (∀ d, ∃ t, Completes (.andAImm d) s t [.acc] ∧ ∀ k, t.acc.getLsbD k = (s.acc.getLsbD k && d.getLsbD k)) ∧
      (∀ d, ∃ t, Completes (.orAImm d) s t [.acc] ∧ ∀ k, t.acc.getLsbD k = (s.acc.getLsbD k || d.getLsbD k))

/-- AND and OR with ACC write the addressed memory location and nothing else (spec/41_logic.md R113, R114, R119).
It rests on choices: log entry 13. -/
def Obligations.AndOrIntoMemory : Prop :=
  OneByte 0x1D .andM10A ∧ OneByte 0x1F .orM10A ∧
    ∀ s : State,
      (∃ t, Completes .andM10A s t [.ram (s.pairAddr .p10)] ∧
        ∀ k, (t.load (s.pairAddr .p10)).getLsbD k = ((s.load (s.pairAddr .p10)).getLsbD k && s.acc.getLsbD k)) ∧
      (∃ t, Completes .orM10A s t [.ram (s.pairAddr .p10)] ∧
        ∀ k, (t.load (s.pairAddr .p10)).getLsbD k = ((s.load (s.pairAddr .p10)).getLsbD k || s.acc.getLsbD k))

/-- XOR writes the exclusive-or to ACC or to memory and leaves CF (spec/41_logic.md R112, R115, R118).
It rests on choices: log entries 10, 13, 19. -/
def Obligations.ExclusiveOrForms : Prop :=
  OneByteAdmitted 0x1B .xorAM10 ∧ OneByteAdmitted 0x1E .xorM10A ∧ Imm4Admitted 0x43 .xorAImm ∧
    ∀ s : State,
      (∃ t, Completes .xorAM10 s t [.acc] ∧
        ∀ k, t.acc.getLsbD k = (s.acc.getLsbD k ^^ (s.loadPair .p10).getLsbD k)) ∧
      (∃ t, Completes .xorM10A s t [.ram (s.pairAddr .p10)] ∧
        ∀ k, (t.load (s.pairAddr .p10)).getLsbD k = ((s.load (s.pairAddr .p10)).getLsbD k ^^ s.acc.getLsbD k)) ∧
      (∀ d, ∃ t, Completes (.xorAImm d) s t [.acc] ∧ ∀ k, t.acc.getLsbD k = (s.acc.getLsbD k ^^ d.getLsbD k))

/-- INC and DEC of ACC and of R0 to R4 go up and down by one modulo 16 and touch nothing else (spec/42_incdec.md R120, R121, R124, R125). -/
def Obligations.IncrementDecrementRegisters : Prop :=
  OneByte 0x31 .incA ∧ OneByte 0x3F .decA ∧
    (∀ s : State,
      (∃ t, Completes .incA s t [.acc] ∧ t.acc.toNat = (s.acc.toNat + 1) % 16) ∧
      (∃ t, Completes .decA s t [.acc] ∧ t.acc.toNat = (s.acc.toNat + 15) % 16)) ∧
    ∀ x ∈ [(Reg.r0, Instr.incR0, Instr.decR0, 0x10#8, 0x11#8), (.r1, .incR1, .decR1, 0x12, 0x13),
      (.r2, .incR2, .decR2, 0x14, 0x15), (.r3, .incR3, .decR3, 0x16, 0x17), (.r4, .incR4, .decR4, 0x18, 0x19)],
      OneByte x.2.2.2.1 x.2.1 ∧ OneByte x.2.2.2.2 x.2.2.1 ∧
      ∀ s : State,
        (∃ t, Completes x.2.1 s t [.reg x.1] ∧ (t.reg x.1).toNat = ((s.reg x.1).toNat + 1) % 16) ∧
        (∃ t, Completes x.2.2.1 s t [.reg x.1] ∧ (t.reg x.1).toNat = ((s.reg x.1).toNat + 15) % 16)

/-- INC and DEC of the addressed memory location change it by one modulo 16 and touch nothing else (spec/42_incdec.md R122, R123, R126, R127). -/
def Obligations.IncrementDecrementMemory : Prop :=
  ∀ x ∈ [(Pair.p10, Instr.incM10, Instr.decM10, 0x0C#8, 0x0D#8), (.p32, .incM32, .decM32, 0x0E, 0x0F)],
      OneByte x.2.2.2.1 x.2.1 ∧ OneByte x.2.2.2.2 x.2.2.1 ∧
      ∀ s : State,
        (∃ t, Completes x.2.1 s t [.ram (s.pairAddr x.1)] ∧
          (t.load (s.pairAddr x.1)).toNat = ((s.load (s.pairAddr x.1)).toNat + 1) % 16) ∧
        (∃ t, Completes x.2.2.1 s t [.ram (s.pairAddr x.1)] ∧
          (t.load (s.pairAddr x.1)).toNat = ((s.load (s.pairAddr x.1)).toNat + 15) % 16)

/-- MOV A,Rn and MOV Rn,A copy between ACC and the register and touch nothing else (spec R130, R131). -/
def Obligations.MovesBetweenAccAndRegisters : Prop :=
  ∀ x ∈ [(Reg.r0, Instr.movAR0, Instr.movR0A, 0x21#8, 0x20#8), (.r1, .movAR1, .movR1A, 0x23, 0x22),
      (.r2, .movAR2, .movR2A, 0x25, 0x24), (.r3, .movAR3, .movR3A, 0x27, 0x26), (.r4, .movAR4, .movR4A, 0x29, 0x28)],
      OneByte x.2.2.2.1 x.2.1 ∧ OneByte x.2.2.2.2 x.2.2.1 ∧
      ∀ s : State,
        (∃ t, Completes x.2.1 s t [.acc] ∧ t.acc = s.reg x.1) ∧
        (∃ t, Completes x.2.2.1 s t [.reg x.1] ∧ t.reg x.1 = s.acc)

/-- MOV A,[pair] loads and MOV [pair],A stores the addressed nibble, and nothing else changes (spec/43_datamove.md R132 to R135, spec/10_state.md R13). -/
def Obligations.MovesBetweenAccAndMemory : Prop :=
  (∀ s : State, (s.pairAddr .p10).toNat = 16 * s.r1.toNat + s.r0.toNat ∧
      (s.pairAddr .p32).toNat = 16 * s.r3.toNat + s.r2.toNat) ∧
    ∀ x ∈ [(Pair.p10, Instr.movAM10, Instr.movM10A, 0x04#8, 0x05#8), (.p32, .movAM32, .movM32A, 0x06, 0x07)],
      OneByte x.2.2.2.1 x.2.1 ∧ OneByte x.2.2.2.2 x.2.2.1 ∧
      ∀ s : State,
        (∃ t, Completes x.2.1 s t [.acc] ∧ t.acc = s.load (s.pairAddr x.1)) ∧
        (∃ t, Completes x.2.2.1 s t [.ram (s.pairAddr x.1)] ∧ t.load (s.pairAddr x.1) = s.acc)

/-- MOV A,XH and MOV R4,XH load the 4-bit immediate and touch nothing else (spec/43_datamove.md R136, R139, spec/30_encoding.md R72).
It rests on choices: log entry 19. -/
def Obligations.MovesOfNibbleImmediates : Prop :=
  (∀ c (d : Nibble) b1, decode c (7#4 ++ d) b1 = .ok (.movAImm d)) ∧ Imm4Form 0x46 .movR4Imm ∧
    ∀ (s : State) (d : Nibble),
      (∃ t, Completes (.movAImm d) s t [.acc] ∧ t.acc = d) ∧
      (∃ t, Completes (.movR4Imm d) s t [.reg .r4] ∧ t.r4 = d)

/-- MOV R1R0,XXH and MOV R3R2,XXH load both registers of a pair (spec/43_datamove.md R137, R138, spec/30_encoding.md R65).
It rests on choices: log entries 9, 19. -/
def Obligations.MovesOfPairImmediates : Prop :=
  (∀ c (d0 d1 : Nibble), c.pairOrder = .lowFirst →
      decode c (5#4 ++ d0) (0#4 ++ d1) = .ok (.movR1R0Imm (d1 ++ d0)) ∧
      decode c (6#4 ++ d0) (0#4 ++ d1) = .ok (.movR3R2Imm (d1 ++ d0))) ∧
    (∀ c (d0 d1 : Nibble), c.pairOrder = .highFirst →
      decode c (5#4 ++ d0) (0#4 ++ d1) = .ok (.movR1R0Imm (d0 ++ d1)) ∧
      decode c (6#4 ++ d0) (0#4 ++ d1) = .ok (.movR3R2Imm (d0 ++ d1))) ∧
    (∀ c (d0 : Nibble) (b1 : Byte), 16 ≤ b1.toNat →
      decode c (5#4 ++ d0) b1 = .bad (.malformedSecond (5#4 ++ d0) b1) ∧
      decode c (6#4 ++ d0) b1 = .bad (.malformedSecond (6#4 ++ d0) b1)) ∧
    ∀ (s : State) (d : Byte),
      (∃ t, Completes (.movR1R0Imm d) s t [.reg .r1, .reg .r0] ∧ 16 * t.r1.toNat + t.r0.toNat = d.toNat) ∧
      (∃ t, Completes (.movR3R2Imm d) s t [.reg .r3, .reg .r2] ∧ 16 * t.r3.toNat + t.r2.toNat = d.toNat)

/-- The four rotates move ACC by one bit, fill the open end and write CF (spec R140, R141, R142, R143). -/
def Obligations.RotatesMoveOneBit : Prop :=
  OneByte 0x01 .rlA ∧ OneByte 0x03 .rlcA ∧ OneByte 0x00 .rrA ∧ OneByte 0x02 .rrcA ∧
    ∀ s : State,
      (∃ t, Completes .rlA s t [.acc, .cf] ∧ (∀ n, n < 3 → t.acc.getLsbD (n + 1) = s.acc.getLsbD n) ∧
        t.acc.getLsbD 0 = s.acc.getLsbD 3 ∧ t.cf = s.acc.getLsbD 3) ∧
      (∃ t, Completes .rlcA s t [.acc, .cf] ∧ (∀ n, n < 3 → t.acc.getLsbD (n + 1) = s.acc.getLsbD n) ∧
        t.acc.getLsbD 0 = s.cf ∧ t.cf = s.acc.getLsbD 3) ∧
      (∃ t, Completes .rrA s t [.acc, .cf] ∧ (∀ n, n < 3 → t.acc.getLsbD n = s.acc.getLsbD (n + 1)) ∧
        t.acc.getLsbD 3 = s.acc.getLsbD 0 ∧ t.cf = s.acc.getLsbD 0) ∧
      (∃ t, Completes .rrcA s t [.acc, .cf] ∧ (∀ n, n < 3 → t.acc.getLsbD n = s.acc.getLsbD (n + 1)) ∧
        t.acc.getLsbD 3 = s.cf ∧ t.cf = s.acc.getLsbD 0)

/-- IN A,PS and IN A,PP put the pin levels into ACC (spec/45_io.md R150, spec/60_exceptions.md R236).
It rests on choices: log entries 15, 23. -/
def Obligations.InputPortsReachAccumulator : Prop :=
  OneByte 0x33 .inAPs ∧ OneByte 0x34 .inAPp ∧
    ∀ s : State,
      (∃ t, Completes .inAPs s t [.acc, .free] ∧ ∀ k : Fin 4,
        (s.ps.drive k = .low → t.acc.getLsbD k = false) ∧ (s.ps.drive k = .high → t.acc.getLsbD k = true) ∧
        (s.ps.drive k = .unconnected → s.config.pullHighPs.getLsbD k = true → t.acc.getLsbD k = true)) ∧
      (∃ t, Completes .inAPp s t [.acc, .free] ∧ ∀ k : Fin 4,
        (s.pp.drive k = .low → t.acc.getLsbD k = false) ∧ (s.pp.drive k = .high → t.acc.getLsbD k = true) ∧
        (s.pp.drive k = .unconnected → s.config.pullHighPp.getLsbD k = true → t.acc.getLsbD k = true))

/-- OUT PA,A writes all four bits of PA: pins, LCD switch and ROM bank (spec/45_io.md R151, spec/10_state.md R17, R18, spec/60_exceptions.md R235, R237).
It rests on choices: log entries 15, 17, 33. -/
def Obligations.OutputWritesLatchPinsLcdAndBank : Prop :=
  OneByte 0x30 .outPaA ∧
    ∀ s : State, ∃ t, Completes .outPaA s t [.pa] ∧ t.pa = s.acc ∧ t.lcdOn = s.acc.getLsbD 2 ∧
      (s.acc.getLsbD 0 = false → t.pa0Level = .low) ∧ (s.acc.getLsbD 1 = false → t.pa1Level = .low) ∧
      (s.acc.getLsbD 0 = true → (s.config.pa0Type = .cmos → t.pa0Level = .high) ∧
        (s.config.pa0Type = .openDrain → t.pa0Level = .floating)) ∧
      (s.acc.getLsbD 1 = true → (s.config.pa1Type = .cmos → t.pa1Level = .high) ∧
        (s.config.pa1Type = .openDrain → t.pa1Level = .floating)) ∧
      t.firstByte = s.rom.read ((if s.acc.getLsbD 3 then 4096 else 0) + s.pc.toNat)

/-- JMP replaces PC with its 12-bit address and touches nothing else (spec/46_branch.md R160, spec/30_encoding.md R67).
It rests on choices: log entry 16. -/
def Obligations.DirectJumpReplacesProgramCounter : Prop :=
  Addr12Form 0b1110 .jmp ∧
    ∀ (s : State) (a : CodeAddr), ∃ t, Completes (.jmp a) s t [.pc] ∧ t.pc = a

/-- JC, JNC and JTMR jump on CF = 1, CF = 0 and TF = 1; JTMR clears TF (spec/46_branch.md R161, R162, R163, R168).
It rests on choices: log entries 11, 16, 29. -/
def Obligations.FlagJumpsFollowTheirFlag : Prop :=
  Addr11Form 0b11000 .jc ∧ Addr11Form 0b11001 .jnc ∧ Addr11Form 0b11010 .jtmr ∧
    ∀ (s : State) (a : JumpAddr),
      (∃ t, Completes (.jc a) s t [.pc] ∧ JumpsIf s t (s.cf = true) a) ∧
      (∃ t, Completes (.jnc a) s t [.pc] ∧ JumpsIf s t (s.cf = false) a) ∧
      (∃ t, Completes (.jtmr a) s t [.pc, .tf] ∧ JumpsIf s t (s.tf = true) a ∧ t.tf = false)

/-- JA0 to JA3, JZ A and JNZ A jump on a bit of ACC, on ACC = 0 and on ACC not 0 (spec/46_branch.md R164, R165, R166, R168).
It rests on choices: log entries 11, 16. -/
def Obligations.AccumulatorJumpsTestAccumulator : Prop :=
  Addr11Form 0b10110 .jzA ∧ Addr11Form 0b10111 .jnzA ∧
    (∀ (s : State) (a : JumpAddr),
      (∃ t, Completes (.jzA a) s t [.pc] ∧ JumpsIf s t (s.acc.toNat = 0) a) ∧
      (∃ t, Completes (.jnzA a) s t [.pc] ∧ JumpsIf s t (s.acc.toNat ≠ 0) a)) ∧
    ∀ x ∈ [(0, Instr.ja0, 0b10000#5), (1, Instr.ja1, 0b10001#5), (2, Instr.ja2, 0b10010#5), (3, Instr.ja3, 0b10011#5)],
      Addr11Form x.2.2 x.2.1 ∧
      ∀ (s : State) (a : JumpAddr), ∃ t, Completes (x.2.1 a) s t [.pc] ∧ JumpsIf s t (s.acc.getLsbD x.1 = true) a

/-- JNZ R0, R1 and R4 jump when the register is not 0, and leave it (spec/46_branch.md R167, R168).
It rests on choices: log entries 11, 16. -/
def Obligations.RegisterJumpsTestRegister : Prop :=
  ∀ x ∈ [(Reg.r0, Instr.jnzR0, 0b10100#5), (Reg.r1, Instr.jnzR1, 0b10101#5), (Reg.r4, Instr.jnzR4, 0b11011#5)],
      Addr11Form x.2.2 x.2.1 ∧
      ∀ (s : State) (a : JumpAddr),
        ∃ t, Completes (x.2.1 a) s t [.pc] ∧ JumpsIf s t ((s.reg x.1).toNat ≠ 0) a

/-- CALL saves the next address, sets SUB and jumps; with SUB = 1 it faults (spec/47_subroutine_flag_nop.md R170).
It rests on choices: log entries 16, 20. -/
def Obligations.CallSavesReturnAddress : Prop :=
  Addr12Form 0b1111 .call ∧
    ∀ (s : State) (a : CodeAddr),
      (s.sub = false → ∃ t, Completes (.call a) s t [.stackPc, .sub, .pc, .stackByCall] ∧
        t.stackPc = s.pc ∧ t.sub = true ∧ t.pc = a ∧ t.stackByCall = true) ∧
      (s.sub = true → exec (.call a) s = .fault .callWhileStackInUse)

/-- RET restores PC, RETI restores PC and CF, both clear SUB; with SUB = 0 they fault (spec/47_subroutine_flag_nop.md R171, R172).
It rests on choices: log entries 20, 21. -/
def Obligations.ReturnsRestoreFromStack : Prop :=
  OneByte 0x2E .ret ∧ OneByte 0x2F .reti ∧
    ∀ s : State,
      (s.sub = true →
        (∃ t, Completes .ret s t [.pc, .sub] ∧ t.pc = s.stackPc ∧ t.sub = false) ∧
        (∃ t, Completes .reti s t [.pc, .sub, .cf, .free] ∧ t.pc = s.stackPc ∧ t.sub = false ∧
          (s.stackByCall = false → t.cf = s.stackCf ∧ t.free = s.free))) ∧
      (s.sub = false → exec .ret s = .fault .returnWithEmptyStack ∧ exec .reti s = .fault .returnWithEmptyStack)

/-- CLC clears CF alone, and NOP changes nothing (spec R173, R177). -/
def Obligations.ClearCarryAndNoOperation : Prop :=
  OneByte 0x2A .clc ∧ OneByte 0x3E .nop ∧
    ∀ s : State,
      (∃ t, Completes .clc s t [.cf] ∧ t.cf = false) ∧ exec .nop s = .next s

/-- EI sets IE and DI clears it; a held interrupt is acceptable right after EI and none is after DI (spec/47_subroutine_flag_nop.md R175, R176, spec/60_exceptions.md R215, R220).
It rests on choices: log entry 18. -/
def Obligations.InterruptEnableAndDisable : Prop :=
  OneByte 0x2C .ei ∧ OneByte 0x2D .di ∧
    ∀ s : State,
      (∃ t, Completes .ei s t [.ie] ∧ t.ie = true ∧
        (s.sub = false → s.halted = false → (s.rtcl = true ∨ s.tf = true) → t.interruptReady = true)) ∧
      (∃ t, Completes .di s t [.ie] ∧ t.ie = false ∧ t.interruptReady = false)

/-- MOV A,TMRL and MOV A,TMRH read the nibbles of the timer and touch nothing else (spec R183, R184). -/
def Obligations.TimerNibbleReads : Prop :=
  OneByte 0x3A .movATmrl ∧ OneByte 0x3B .movATmrh ∧
    ∀ s : State,
      (∃ t, Completes .movATmrl s t [.acc] ∧ t.acc.toNat = s.timer.toNat % 16) ∧
      (∃ t, Completes .movATmrh s t [.acc] ∧ t.acc.toNat = s.timer.toNat / 16)

/-- MOV TMRL,A and MOV TMRH,A load one nibble of the timer and keep the other (spec/48_timer_tableread.md R185, R186).
It rests on choices: log entry 25. -/
def Obligations.TimerNibbleWrites : Prop :=
  OneByte 0x3C .movTmrlA ∧ OneByte 0x3D .movTmrhA ∧
    ∀ s : State,
      (∃ t, Completes .movTmrlA s t [.timer] ∧ t.timer.toNat = 16 * (s.timer.toNat / 16) + s.acc.toNat) ∧
      (∃ t, Completes .movTmrhA s t [.timer] ∧ t.timer.toNat = 16 * s.acc.toNat + s.timer.toNat % 16)

/-- READ R4A and READF R4A read a ROM byte of the current bank into R4 and ACC (spec/48_timer_tableread.md R187, R189, R191).
It rests on choices: log entry 30. -/
def Obligations.TableReadsIntoR4 : Prop :=
  OneByte 0x4C .readR4A ∧ OneByte 0x4D .readfR4A ∧
    ∀ s : State,
      (∃ t, Completes .readR4A s t [.acc, .reg .r4] ∧
        16 * t.r4.toNat + t.acc.toNat = (s.rom.read (bankedKey s
          (256 * (s.pc.toNat / 256) + 16 * s.acc.toNat + (s.load (s.pairAddr .p10)).toNat))).toNat) ∧
      (∃ t, Completes .readfR4A s t [.acc, .reg .r4] ∧
        16 * t.r4.toNat + t.acc.toNat = (s.rom.read (bankedKey s
          (256 * 15 + 16 * s.acc.toNat + (s.load (s.pairAddr .p10)).toNat))).toNat)

/-- READ MR0A and READF MR0A read a ROM byte of the current bank into memory and ACC (spec/48_timer_tableread.md R188, R190, R191).
It rests on choices: log entry 30. -/
def Obligations.TableReadsIntoMemory : Prop :=
  OneByte 0x4E .readMr0A ∧ OneByte 0x4F .readfMr0A ∧
    ∀ s : State,
      (∃ t, Completes .readMr0A s t [.acc, .ram (s.pairAddr .p10)] ∧
        16 * (t.load (s.pairAddr .p10)).toNat + t.acc.toNat = (s.rom.read (bankedKey s
          (256 * (s.pc.toNat / 256) + 16 * s.acc.toNat + s.r4.toNat))).toNat) ∧
      (∃ t, Completes .readfMr0A s t [.acc, .ram (s.pairAddr .p10)] ∧
        16 * (t.load (s.pairAddr .p10)).toNat + t.acc.toNat = (s.rom.read (bankedKey s
          (256 * 15 + 16 * s.acc.toNat + s.r4.toNat))).toNat)

/-- SOUND A starts the sound channel ACC names and touches nothing else (spec R196). -/
def Obligations.SoundChannelFromAccumulator : Prop :=
  OneByte 0x4B .soundA ∧
    ∀ s : State, ∃ t, Completes .soundA s t [.sndCh, .sndOn] ∧ t.sndCh = s.acc ∧ t.sndOn = true

/-- STC, TIMER ON, TIMER OFF, TIMER XXH, SOUND n, ONE, LOOP and OFF write their one piece of state (spec/47_subroutine_flag_nop.md R174, spec/48_timer_tableread.md R180 to R182, spec/49_sound_halt.md R195, R197 to R199).
It rests on choices: log entries 10, 19, 25, 28. -/
def Obligations.UnsourcedControlInstructions : Prop :=
  OneByteAdmitted 0x2B .stc ∧ OneByteAdmitted 0x38 .timerOn ∧ OneByteAdmitted 0x39 .timerOff ∧
    (∀ c d, c.admitUnsourced = true → decode c 0x47 d = .ok (.timerImm d)) ∧ Imm4Admitted 0x45 .soundImm ∧
    OneByteAdmitted 0x48 .soundOne ∧ OneByteAdmitted 0x49 .soundLoop ∧ OneByteAdmitted 0x4A .soundOff ∧
    ∀ s : State,
      (∃ t, Completes .stc s t [.cf] ∧ t.cf = true) ∧
      (∃ t, Completes .timerOn s t [.ton] ∧ t.ton = true) ∧
      (∃ t, Completes .timerOff s t [.ton] ∧ t.ton = false) ∧
      (∀ d, ∃ t, Completes (.timerImm d) s t [.timer] ∧ t.timer = d) ∧
      (∀ n, ∃ t, Completes (.soundImm n) s t [.sndCh, .sndOn] ∧ t.sndCh = n ∧ t.sndOn = true) ∧
      (∃ t, Completes .soundOne s t [.sndLoop] ∧ t.sndLoop = false) ∧
      (∃ t, Completes .soundLoop s t [.sndLoop] ∧ t.sndLoop = true) ∧
      (∃ t, Completes .soundOff s t [.sndOn] ∧ t.sndOn = false)

/-- HALT is exactly 37H 3EH, sets HALTED and touches nothing else (spec/49_sound_halt.md R200, spec/60_exceptions.md R229).
It rests on choices: log entry 19. -/
def Obligations.HaltEntersPowerDown : Prop :=
  (∀ c, decode c 0x37 0x3E = .ok .halt) ∧
    (∀ c b1, b1 ≠ 0x3E → decode c 0x37 b1 = .bad (.malformedSecond 0x37 b1)) ∧
    ∀ s : State, ∃ t, Completes .halt s t [.halted] ∧ t.halted = true

/-- The LCD driver changes nothing, and shows the display area exactly while PA2 is 1 (spec/60_exceptions.md R234, R235, spec/20_memory.md R42).
It rests on choices: log entry 35. -/
def Obligations.DisplayDriverReadsDisplayArea : Prop :=
  (∀ (s : State) (rest : List Move), s.schedule = .lcdScan :: rest → step s = .next { s with schedule := rest }) ∧
    ∀ s : State,
      (s.pa.getLsbD 2 = true → ∃ shown, s.lcdOutput = some shown ∧ shown.length = 100 ∧
        ∀ a : DataAddr, 0x9C ≤ a.toNat → shown[a.toNat - 0x9C]? = some (s.load a)) ∧
      (s.pa.getLsbD 2 = false → s.lcdOutput = none)

/-- With nothing scheduled a step draws a round, and in every run timer, RTC and CPU move again and again (spec/60_exceptions.md R240, R225, R228).
It rests on choices: log entries 7, 27. -/
def Obligations.AgentsMoveUnderWeakFairness : Prop :=
  (∀ s : State, s.schedule = [] → ∃ t, step s = .next t ∧ Frame [.schedule, .free] s t ∧
      Move.timerTick ∈ t.schedule ∧ Move.rtcEvent ∈ t.schedule ∧ ∃ d, Move.cpu d ∈ t.schedule) ∧
    ∀ s : State, (∀ n, ∃ u, runFor n s = some u) →
      (∃ n u rest, runFor n s = some u ∧ u.schedule = .timerTick :: rest) ∧
      (∃ n u rest, runFor n s = some u ∧ u.schedule = .rtcEvent :: rest) ∧
      (∃ n u d rest, runFor n s = some u ∧ u.schedule = .cpu d :: rest) ∧
      (∃ n u, runFor n s = some u ∧ u.rtcl = true)
end

