-- ==== Sys2Proof/Laws/Flags.lean ====
section
/-! SUPPORT. What each carry computation answers, in the integers of the arithmetic law (R107), once for all. -/

namespace Sys2Proof.Machine

theorem addCarry_spec (a b : Nibble) (c : Bool) :
    (addCarry a b c).1.toNat = sumOf a b c % 16 ∧ ((addCarry a b c).2 = true ↔ 16 ≤ sumOf a b c) := by
  have hs : sumOf a b c < 32 := by
    have := a.isLt; have := b.isLt; have := c.toNat_lt; unfold sumOf; omega
  refine ⟨by simp [addCarry], ?_⟩
  simp only [addCarry, Nat.testBit, Nat.shiftRight_eq_div_pow, bne_iff_ne, Nat.one_and_eq_mod_two]
  omega

theorem subCarry_spec (a b : Nibble) (c : Bool) :
    (subCarry a b c).1.toNat = (a.toNat + 15 - b.toNat + c.toNat) % 16 ∧
      ((subCarry a b c).2 = true ↔ b.toNat + (!c).toNat ≤ a.toNat) := by
  have hb := b.isLt
  have hsum : sumOf a (~~~b) c = a.toNat + 15 - b.toNat + c.toNat := by
    simp only [sumOf, BitVec.toNat_not]; omega
  have h := addCarry_spec a (~~~b) c
  rw [hsum] at h
  refine ⟨h.1, h.2.trans ?_⟩
  cases c <;> simp <;> omega

theorem decimalAdjust_spec (a : Nibble) (c : Bool) :
    decimalAdjust a c = if 9 < a.toNat ∨ c = true then (a + 6, true) else (a, c) := rfl

theorem rotateLeft_spec (a : Nibble) :
    (rotateLeft a).1 = a.rotateLeft 1 ∧ (rotateLeft a).2 = a.getLsbD 3 := by
  revert a; decide

theorem rotateRight_spec (a : Nibble) :
    (rotateRight a).1 = a.rotateRight 1 ∧ (rotateRight a).2 = a.getLsbD 0 := by
  revert a; decide

theorem rotateLeftCarry_spec (a : Nibble) (c : Bool) :
    (rotateLeftCarry a c).1.toNat = (2 * a.toNat + c.toNat) % 16 ∧ (rotateLeftCarry a c).2 = a.getLsbD 3 := by
  revert a c; decide

theorem rotateRightCarry_spec (a : Nibble) (c : Bool) :
    (rotateRightCarry a c).1.toNat = a.toNat / 2 + 8 * c.toNat ∧ (rotateRightCarry a c).2 = a.getLsbD 0 := by
  revert a c; decide

@[simp] theorem State.setAccCf_acc (s : State) (r : Nibble × Bool) : (s.setAccCf r).acc = r.1 := rfl
@[simp] theorem State.setAccCf_cf (s : State) (r : Nibble × Bool) : (s.setAccCf r).cf = r.2 := rfl

end Sys2Proof.Machine
end

