-- ==== Sys2Proof/Laws/Memory.lean ====
section
/-! SUPPORT. The memory laws: a read after a write, and every memory operation keeps the canonical form. -/

namespace Sys2Proof.Machine

variable {w : Nat}

theorem Memory.read_clear (m : Memory w) (a b : Nat) :
    (m.clear a).read b = if b = a then Memory.unlisted else m.read b := by
  induction m with
  | nil => simp [Memory.clear, Memory.read]
  | cons e m ih =>
    obtain ⟨k, x⟩ := e
    simp only [Memory.clear]
    split
    · rename_i hk
      subst hk
      rw [ih]
      split <;> simp_all [Memory.read]
    · rename_i hk
      simp only [Memory.read]
      split
      · rename_i hb
        subst hb
        simp [hk]
      · rw [ih]

theorem Memory.read_place (m : Memory w) (a b : Nat) (v : BitVec w) (h : ∀ x, (a, x) ∉ m) :
    (m.place a v).read b = if b = a then v else m.read b := by
  induction m with
  | nil => simp [Memory.place, Memory.read]
  | cons e m ih =>
    obtain ⟨k, x⟩ := e
    have hk : a ≠ k := by rintro rfl; exact h x (List.mem_cons_self ..)
    have hm := ih fun y hy => h y (List.mem_cons_of_mem _ hy)
    simp only [Memory.place]
    split
    · simp [Memory.read]
    · by_cases hb : b = k
      · have : b ≠ a := by omega
        simp [Memory.read, hb, Ne.symm hk]
      · simp [Memory.read, hb, hm]

theorem Memory.not_mem_clear (m : Memory w) (a : Nat) (x : BitVec w) : (a, x) ∉ m.clear a := by
  induction m with
  | nil => simp [Memory.clear]
  | cons e m ih =>
    obtain ⟨k, y⟩ := e
    simp only [Memory.clear]
    split
    · exact ih
    · rename_i hk
      simp [ih, Ne.symm hk]

/-- THE MEMORY LAW: a write changes what its own address reads as, and nothing else. -/
theorem Memory.read_write (m : Memory w) (a b : Nat) (v : BitVec w) :
    (m.write a v).read b = if b = a then v else m.read b := by
  unfold Memory.write
  split
  · rename_i hv
    rw [Memory.read_clear, hv]
  · rw [Memory.read_place _ _ _ _ fun x => Memory.not_mem_clear m a x, Memory.read_clear]
    split <;> rfl

@[simp] theorem Memory.read_write_same (m : Memory w) (a : Nat) (v : BitVec w) : (m.write a v).read a = v := by
  simp [Memory.read_write]

theorem Memory.read_write_other (m : Memory w) {a b : Nat} (v : BitVec w) (h : b ≠ a) :
    (m.write a v).read b = m.read b := by
  simp [Memory.read_write, h]

theorem Memory.wfFrom_mono {size lo lo' : Nat} (m : Memory w) (h : m.wfFrom size lo = true) (hl : lo' ≤ lo) :
    m.wfFrom size lo' = true := by
  cases m with
  | nil => rfl
  | cons e m =>
    obtain ⟨k, x⟩ := e
    simp only [Memory.wfFrom, Bool.and_eq_true, decide_eq_true_eq] at h ⊢
    exact ⟨⟨⟨by omega, h.1.1.2⟩, h.1.2⟩, h.2⟩

theorem Memory.wfFrom_clear {size lo : Nat} (m : Memory w) (a : Nat) (h : m.wfFrom size lo = true) :
    (m.clear a).wfFrom size lo = true := by
  induction m generalizing lo with
  | nil => rfl
  | cons e m ih =>
    obtain ⟨k, x⟩ := e
    simp only [Memory.wfFrom, Bool.and_eq_true, decide_eq_true_eq] at h
    simp only [Memory.clear]
    split
    · exact ih (Memory.wfFrom_mono m h.2 (by omega))
    · simp only [Memory.wfFrom, Bool.and_eq_true, decide_eq_true_eq]
      exact ⟨h.1, ih h.2⟩

theorem Memory.wfFrom_place {size lo : Nat} (m : Memory w) {a : Nat} {v : BitVec w} (h : m.wfFrom size lo = true)
    (hlo : lo ≤ a) (ha : a < size) (hv : v ≠ Memory.unlisted) (hm : ∀ x, (a, x) ∉ m) :
    (m.place a v).wfFrom size lo = true := by
  induction m generalizing lo with
  | nil => simp [Memory.place, Memory.wfFrom, hlo, ha, hv]
  | cons e m ih =>
    obtain ⟨k, x⟩ := e
    have hk : a ≠ k := by rintro rfl; exact hm x (List.mem_cons_self ..)
    simp only [Memory.wfFrom, Bool.and_eq_true, decide_eq_true_eq] at h
    simp only [Memory.place]
    split
    · simp only [Memory.wfFrom, Bool.and_eq_true, decide_eq_true_eq]
      exact ⟨⟨⟨hlo, ha⟩, by simp [hv]⟩, ⟨⟨by omega, h.1.1.2⟩, h.1.2⟩, h.2⟩
    · simp only [Memory.wfFrom, Bool.and_eq_true, decide_eq_true_eq]
      exact ⟨h.1, ih h.2 (by omega) fun y hy => hm y (List.mem_cons_of_mem _ hy)⟩

/-- A write inside the address space keeps the canonical form. -/
theorem Memory.wf_write {size : Nat} (m : Memory w) {a : Nat} (v : BitVec w) (h : m.wf size = true) (ha : a < size) :
    (m.write a v).wf size = true := by
  unfold Memory.write
  split
  · exact Memory.wfFrom_clear m a h
  · exact Memory.wfFrom_place _ (Memory.wfFrom_clear m a h) (Nat.zero_le _) ha ‹_› fun x => Memory.not_mem_clear m a x

@[simp] theorem Memory.wf_nil (size : Nat) : Memory.wf size ([] : Memory w) = true := rfl

/-- A tabulated memory has the canonical form. -/
theorem Memory.wf_tabulate {size : Nat} (f : Nat → BitVec w) (n : Nat) (h : n ≤ size) :
    (Memory.tabulate f n).wf size = true := by
  induction n with
  | zero => rfl
  | succ n ih => exact Memory.wf_write _ _ (ih (by omega)) (by omega)

/-- A tabulated memory reads as its table. -/
theorem Memory.read_tabulate (f : Nat → BitVec w) (n a : Nat) :
    (Memory.tabulate f n).read a = if a < n then f a else Memory.unlisted := by
  induction n with
  | zero => rfl
  | succ n ih =>
    rw [Memory.tabulate, Memory.read_write, ih]
    by_cases h : a = n
    · subst h; simp
    · by_cases h' : a < n
      · simp [h, h', Nat.lt_succ_of_lt h']
      · have : ¬a < n + 1 := by omega
        simp [h, h', this]

/-- The two memory operations of the machine, on the data memory (R41). -/
theorem State.load_store (s : State) (a b : DataAddr) (v : Nibble) :
    (s.store a v).load b = if b = a then v else s.load b := by
  simp only [State.store, State.load, Memory.read_write, BitVec.toNat_inj]

@[simp] theorem State.load_store_same (s : State) (a : DataAddr) (v : Nibble) : (s.store a v).load a = v := by
  simp [State.load_store]

theorem State.wf_store (s : State) (a : DataAddr) (v : Nibble) (h : s.ram.wf ramSize = true) :
    (s.store a v).ram.wf ramSize = true :=
  Memory.wf_write _ _ h a.isLt

theorem State.reset_memories_wf : State.reset.ram.wf ramSize = true ∧ State.reset.rom.wf romSize = true := ⟨rfl, rfl⟩

end Sys2Proof.Machine
end

