-- ==== Sys2Proof/Laws/State.lean ====
section
/-! SUPPORT. One lemma per field per update of State, and the lemmas of the register file, so that no proof unfolds a
record update. -/

namespace Sys2Proof.Machine

section setAcc

variable (s : State) (v : Nibble)

@[simp] theorem State.setAcc_acc : (s.setAcc v).acc = v := rfl
@[simp] theorem State.setAcc_cf : (s.setAcc v).cf = s.cf := rfl
@[simp] theorem State.setAcc_r0 : (s.setAcc v).r0 = s.r0 := rfl
@[simp] theorem State.setAcc_r1 : (s.setAcc v).r1 = s.r1 := rfl
@[simp] theorem State.setAcc_r2 : (s.setAcc v).r2 = s.r2 := rfl
@[simp] theorem State.setAcc_r3 : (s.setAcc v).r3 = s.r3 := rfl
@[simp] theorem State.setAcc_r4 : (s.setAcc v).r4 = s.r4 := rfl
@[simp] theorem State.setAcc_pc : (s.setAcc v).pc = s.pc := rfl
@[simp] theorem State.setAcc_pa : (s.setAcc v).pa = s.pa := rfl
@[simp] theorem State.setAcc_stackPc : (s.setAcc v).stackPc = s.stackPc := rfl
@[simp] theorem State.setAcc_stackCf : (s.setAcc v).stackCf = s.stackCf := rfl
@[simp] theorem State.setAcc_sub : (s.setAcc v).sub = s.sub := rfl
@[simp] theorem State.setAcc_ie : (s.setAcc v).ie = s.ie := rfl
@[simp] theorem State.setAcc_rtcl : (s.setAcc v).rtcl = s.rtcl := rfl
@[simp] theorem State.setAcc_timer : (s.setAcc v).timer = s.timer := rfl
@[simp] theorem State.setAcc_ton : (s.setAcc v).ton = s.ton := rfl
@[simp] theorem State.setAcc_tf : (s.setAcc v).tf = s.tf := rfl
@[simp] theorem State.setAcc_halted : (s.setAcc v).halted = s.halted := rfl
@[simp] theorem State.setAcc_sndOn : (s.setAcc v).sndOn = s.sndOn := rfl
@[simp] theorem State.setAcc_sndCh : (s.setAcc v).sndCh = s.sndCh := rfl
@[simp] theorem State.setAcc_sndLoop : (s.setAcc v).sndLoop = s.sndLoop := rfl
@[simp] theorem State.setAcc_ram : (s.setAcc v).ram = s.ram := rfl
@[simp] theorem State.setAcc_rom : (s.setAcc v).rom = s.rom := rfl
@[simp] theorem State.setAcc_config : (s.setAcc v).config = s.config := rfl
@[simp] theorem State.setAcc_ps : (s.setAcc v).ps = s.ps := rfl
@[simp] theorem State.setAcc_pp : (s.setAcc v).pp = s.pp := rfl
@[simp] theorem State.setAcc_resetHeld : (s.setAcc v).resetHeld = s.resetHeld := rfl
@[simp] theorem State.setAcc_schedule : (s.setAcc v).schedule = s.schedule := rfl
@[simp] theorem State.setAcc_stackByCall : (s.setAcc v).stackByCall = s.stackByCall := rfl
@[simp] theorem State.setAcc_free : (s.setAcc v).free = s.free := rfl

end setAcc

section setCf

variable (s : State) (c : Bool)

@[simp] theorem State.setCf_acc : (s.setCf c).acc = s.acc := rfl
@[simp] theorem State.setCf_cf : (s.setCf c).cf = c := rfl
@[simp] theorem State.setCf_r0 : (s.setCf c).r0 = s.r0 := rfl
@[simp] theorem State.setCf_r1 : (s.setCf c).r1 = s.r1 := rfl
@[simp] theorem State.setCf_r2 : (s.setCf c).r2 = s.r2 := rfl
@[simp] theorem State.setCf_r3 : (s.setCf c).r3 = s.r3 := rfl
@[simp] theorem State.setCf_r4 : (s.setCf c).r4 = s.r4 := rfl
@[simp] theorem State.setCf_pc : (s.setCf c).pc = s.pc := rfl
@[simp] theorem State.setCf_pa : (s.setCf c).pa = s.pa := rfl
@[simp] theorem State.setCf_stackPc : (s.setCf c).stackPc = s.stackPc := rfl
@[simp] theorem State.setCf_stackCf : (s.setCf c).stackCf = s.stackCf := rfl
@[simp] theorem State.setCf_sub : (s.setCf c).sub = s.sub := rfl
@[simp] theorem State.setCf_ie : (s.setCf c).ie = s.ie := rfl
@[simp] theorem State.setCf_rtcl : (s.setCf c).rtcl = s.rtcl := rfl
@[simp] theorem State.setCf_timer : (s.setCf c).timer = s.timer := rfl
@[simp] theorem State.setCf_ton : (s.setCf c).ton = s.ton := rfl
@[simp] theorem State.setCf_tf : (s.setCf c).tf = s.tf := rfl
@[simp] theorem State.setCf_halted : (s.setCf c).halted = s.halted := rfl
@[simp] theorem State.setCf_sndOn : (s.setCf c).sndOn = s.sndOn := rfl
@[simp] theorem State.setCf_sndCh : (s.setCf c).sndCh = s.sndCh := rfl
@[simp] theorem State.setCf_sndLoop : (s.setCf c).sndLoop = s.sndLoop := rfl
@[simp] theorem State.setCf_ram : (s.setCf c).ram = s.ram := rfl
@[simp] theorem State.setCf_rom : (s.setCf c).rom = s.rom := rfl
@[simp] theorem State.setCf_config : (s.setCf c).config = s.config := rfl
@[simp] theorem State.setCf_ps : (s.setCf c).ps = s.ps := rfl
@[simp] theorem State.setCf_pp : (s.setCf c).pp = s.pp := rfl
@[simp] theorem State.setCf_resetHeld : (s.setCf c).resetHeld = s.resetHeld := rfl
@[simp] theorem State.setCf_schedule : (s.setCf c).schedule = s.schedule := rfl
@[simp] theorem State.setCf_stackByCall : (s.setCf c).stackByCall = s.stackByCall := rfl
@[simp] theorem State.setCf_free : (s.setCf c).free = s.free := rfl

end setCf

section setPc

variable (s : State) (a : CodeAddr)

@[simp] theorem State.setPc_acc : (s.setPc a).acc = s.acc := rfl
@[simp] theorem State.setPc_cf : (s.setPc a).cf = s.cf := rfl
@[simp] theorem State.setPc_r0 : (s.setPc a).r0 = s.r0 := rfl
@[simp] theorem State.setPc_r1 : (s.setPc a).r1 = s.r1 := rfl
@[simp] theorem State.setPc_r2 : (s.setPc a).r2 = s.r2 := rfl
@[simp] theorem State.setPc_r3 : (s.setPc a).r3 = s.r3 := rfl
@[simp] theorem State.setPc_r4 : (s.setPc a).r4 = s.r4 := rfl
@[simp] theorem State.setPc_pc : (s.setPc a).pc = a := rfl
@[simp] theorem State.setPc_pa : (s.setPc a).pa = s.pa := rfl
@[simp] theorem State.setPc_stackPc : (s.setPc a).stackPc = s.stackPc := rfl
@[simp] theorem State.setPc_stackCf : (s.setPc a).stackCf = s.stackCf := rfl
@[simp] theorem State.setPc_sub : (s.setPc a).sub = s.sub := rfl
@[simp] theorem State.setPc_ie : (s.setPc a).ie = s.ie := rfl
@[simp] theorem State.setPc_rtcl : (s.setPc a).rtcl = s.rtcl := rfl
@[simp] theorem State.setPc_timer : (s.setPc a).timer = s.timer := rfl
@[simp] theorem State.setPc_ton : (s.setPc a).ton = s.ton := rfl
@[simp] theorem State.setPc_tf : (s.setPc a).tf = s.tf := rfl
@[simp] theorem State.setPc_halted : (s.setPc a).halted = s.halted := rfl
@[simp] theorem State.setPc_sndOn : (s.setPc a).sndOn = s.sndOn := rfl
@[simp] theorem State.setPc_sndCh : (s.setPc a).sndCh = s.sndCh := rfl
@[simp] theorem State.setPc_sndLoop : (s.setPc a).sndLoop = s.sndLoop := rfl
@[simp] theorem State.setPc_ram : (s.setPc a).ram = s.ram := rfl
@[simp] theorem State.setPc_rom : (s.setPc a).rom = s.rom := rfl
@[simp] theorem State.setPc_config : (s.setPc a).config = s.config := rfl
@[simp] theorem State.setPc_ps : (s.setPc a).ps = s.ps := rfl
@[simp] theorem State.setPc_pp : (s.setPc a).pp = s.pp := rfl
@[simp] theorem State.setPc_resetHeld : (s.setPc a).resetHeld = s.resetHeld := rfl
@[simp] theorem State.setPc_schedule : (s.setPc a).schedule = s.schedule := rfl
@[simp] theorem State.setPc_stackByCall : (s.setPc a).stackByCall = s.stackByCall := rfl
@[simp] theorem State.setPc_free : (s.setPc a).free = s.free := rfl

end setPc

section setTimer

variable (s : State) (v : Byte)

@[simp] theorem State.setTimer_acc : (s.setTimer v).acc = s.acc := rfl
@[simp] theorem State.setTimer_cf : (s.setTimer v).cf = s.cf := rfl
@[simp] theorem State.setTimer_r0 : (s.setTimer v).r0 = s.r0 := rfl
@[simp] theorem State.setTimer_r1 : (s.setTimer v).r1 = s.r1 := rfl
@[simp] theorem State.setTimer_r2 : (s.setTimer v).r2 = s.r2 := rfl
@[simp] theorem State.setTimer_r3 : (s.setTimer v).r3 = s.r3 := rfl
@[simp] theorem State.setTimer_r4 : (s.setTimer v).r4 = s.r4 := rfl
@[simp] theorem State.setTimer_pc : (s.setTimer v).pc = s.pc := rfl
@[simp] theorem State.setTimer_pa : (s.setTimer v).pa = s.pa := rfl
@[simp] theorem State.setTimer_stackPc : (s.setTimer v).stackPc = s.stackPc := rfl
@[simp] theorem State.setTimer_stackCf : (s.setTimer v).stackCf = s.stackCf := rfl
@[simp] theorem State.setTimer_sub : (s.setTimer v).sub = s.sub := rfl
@[simp] theorem State.setTimer_ie : (s.setTimer v).ie = s.ie := rfl
@[simp] theorem State.setTimer_rtcl : (s.setTimer v).rtcl = s.rtcl := rfl
@[simp] theorem State.setTimer_timer : (s.setTimer v).timer = v := rfl
@[simp] theorem State.setTimer_ton : (s.setTimer v).ton = s.ton := rfl
@[simp] theorem State.setTimer_tf : (s.setTimer v).tf = s.tf := rfl
@[simp] theorem State.setTimer_halted : (s.setTimer v).halted = s.halted := rfl
@[simp] theorem State.setTimer_sndOn : (s.setTimer v).sndOn = s.sndOn := rfl
@[simp] theorem State.setTimer_sndCh : (s.setTimer v).sndCh = s.sndCh := rfl
@[simp] theorem State.setTimer_sndLoop : (s.setTimer v).sndLoop = s.sndLoop := rfl
@[simp] theorem State.setTimer_ram : (s.setTimer v).ram = s.ram := rfl
@[simp] theorem State.setTimer_rom : (s.setTimer v).rom = s.rom := rfl
@[simp] theorem State.setTimer_config : (s.setTimer v).config = s.config := rfl
@[simp] theorem State.setTimer_ps : (s.setTimer v).ps = s.ps := rfl
@[simp] theorem State.setTimer_pp : (s.setTimer v).pp = s.pp := rfl
@[simp] theorem State.setTimer_resetHeld : (s.setTimer v).resetHeld = s.resetHeld := rfl
@[simp] theorem State.setTimer_schedule : (s.setTimer v).schedule = s.schedule := rfl
@[simp] theorem State.setTimer_stackByCall : (s.setTimer v).stackByCall = s.stackByCall := rfl
@[simp] theorem State.setTimer_free : (s.setTimer v).free = s.free := rfl

end setTimer

section store

variable (s : State) (a : DataAddr) (v : Nibble)

@[simp] theorem State.store_acc : (s.store a v).acc = s.acc := rfl
@[simp] theorem State.store_cf : (s.store a v).cf = s.cf := rfl
@[simp] theorem State.store_r0 : (s.store a v).r0 = s.r0 := rfl
@[simp] theorem State.store_r1 : (s.store a v).r1 = s.r1 := rfl
@[simp] theorem State.store_r2 : (s.store a v).r2 = s.r2 := rfl
@[simp] theorem State.store_r3 : (s.store a v).r3 = s.r3 := rfl
@[simp] theorem State.store_r4 : (s.store a v).r4 = s.r4 := rfl
@[simp] theorem State.store_pc : (s.store a v).pc = s.pc := rfl
@[simp] theorem State.store_pa : (s.store a v).pa = s.pa := rfl
@[simp] theorem State.store_stackPc : (s.store a v).stackPc = s.stackPc := rfl
@[simp] theorem State.store_stackCf : (s.store a v).stackCf = s.stackCf := rfl
@[simp] theorem State.store_sub : (s.store a v).sub = s.sub := rfl
@[simp] theorem State.store_ie : (s.store a v).ie = s.ie := rfl
@[simp] theorem State.store_rtcl : (s.store a v).rtcl = s.rtcl := rfl
@[simp] theorem State.store_timer : (s.store a v).timer = s.timer := rfl
@[simp] theorem State.store_ton : (s.store a v).ton = s.ton := rfl
@[simp] theorem State.store_tf : (s.store a v).tf = s.tf := rfl
@[simp] theorem State.store_halted : (s.store a v).halted = s.halted := rfl
@[simp] theorem State.store_sndOn : (s.store a v).sndOn = s.sndOn := rfl
@[simp] theorem State.store_sndCh : (s.store a v).sndCh = s.sndCh := rfl
@[simp] theorem State.store_sndLoop : (s.store a v).sndLoop = s.sndLoop := rfl
@[simp] theorem State.store_ram : (s.store a v).ram = s.ram.write a.toNat v := rfl
@[simp] theorem State.store_rom : (s.store a v).rom = s.rom := rfl
@[simp] theorem State.store_config : (s.store a v).config = s.config := rfl
@[simp] theorem State.store_ps : (s.store a v).ps = s.ps := rfl
@[simp] theorem State.store_pp : (s.store a v).pp = s.pp := rfl
@[simp] theorem State.store_resetHeld : (s.store a v).resetHeld = s.resetHeld := rfl
@[simp] theorem State.store_schedule : (s.store a v).schedule = s.schedule := rfl
@[simp] theorem State.store_stackByCall : (s.store a v).stackByCall = s.stackByCall := rfl
@[simp] theorem State.store_free : (s.store a v).free = s.free := rfl

end store

section drawn

variable (s : State)

@[simp] theorem State.drawn_acc : (s.drawn).acc = s.acc := rfl
@[simp] theorem State.drawn_cf : (s.drawn).cf = s.cf := rfl
@[simp] theorem State.drawn_r0 : (s.drawn).r0 = s.r0 := rfl
@[simp] theorem State.drawn_r1 : (s.drawn).r1 = s.r1 := rfl
@[simp] theorem State.drawn_r2 : (s.drawn).r2 = s.r2 := rfl
@[simp] theorem State.drawn_r3 : (s.drawn).r3 = s.r3 := rfl
@[simp] theorem State.drawn_r4 : (s.drawn).r4 = s.r4 := rfl
@[simp] theorem State.drawn_pc : (s.drawn).pc = s.pc := rfl
@[simp] theorem State.drawn_pa : (s.drawn).pa = s.pa := rfl
@[simp] theorem State.drawn_stackPc : (s.drawn).stackPc = s.stackPc := rfl
@[simp] theorem State.drawn_stackCf : (s.drawn).stackCf = s.stackCf := rfl
@[simp] theorem State.drawn_sub : (s.drawn).sub = s.sub := rfl
@[simp] theorem State.drawn_ie : (s.drawn).ie = s.ie := rfl
@[simp] theorem State.drawn_rtcl : (s.drawn).rtcl = s.rtcl := rfl
@[simp] theorem State.drawn_timer : (s.drawn).timer = s.timer := rfl
@[simp] theorem State.drawn_ton : (s.drawn).ton = s.ton := rfl
@[simp] theorem State.drawn_tf : (s.drawn).tf = s.tf := rfl
@[simp] theorem State.drawn_halted : (s.drawn).halted = s.halted := rfl
@[simp] theorem State.drawn_sndOn : (s.drawn).sndOn = s.sndOn := rfl
@[simp] theorem State.drawn_sndCh : (s.drawn).sndCh = s.sndCh := rfl
@[simp] theorem State.drawn_sndLoop : (s.drawn).sndLoop = s.sndLoop := rfl
@[simp] theorem State.drawn_ram : (s.drawn).ram = s.ram := rfl
@[simp] theorem State.drawn_rom : (s.drawn).rom = s.rom := rfl
@[simp] theorem State.drawn_config : (s.drawn).config = s.config := rfl
@[simp] theorem State.drawn_ps : (s.drawn).ps = s.ps := rfl
@[simp] theorem State.drawn_pp : (s.drawn).pp = s.pp := rfl
@[simp] theorem State.drawn_resetHeld : (s.drawn).resetHeld = s.resetHeld := rfl
@[simp] theorem State.drawn_schedule : (s.drawn).schedule = s.schedule := rfl
@[simp] theorem State.drawn_stackByCall : (s.drawn).stackByCall = s.stackByCall := rfl
@[simp] theorem State.drawn_free : (s.drawn).free = s.free + 1 := rfl

end drawn

section pushCall

variable (s : State)

@[simp] theorem State.pushCall_acc : (s.pushCall).acc = s.acc := rfl
@[simp] theorem State.pushCall_cf : (s.pushCall).cf = s.cf := rfl
@[simp] theorem State.pushCall_r0 : (s.pushCall).r0 = s.r0 := rfl
@[simp] theorem State.pushCall_r1 : (s.pushCall).r1 = s.r1 := rfl
@[simp] theorem State.pushCall_r2 : (s.pushCall).r2 = s.r2 := rfl
@[simp] theorem State.pushCall_r3 : (s.pushCall).r3 = s.r3 := rfl
@[simp] theorem State.pushCall_r4 : (s.pushCall).r4 = s.r4 := rfl
@[simp] theorem State.pushCall_pc : (s.pushCall).pc = s.pc := rfl
@[simp] theorem State.pushCall_pa : (s.pushCall).pa = s.pa := rfl
@[simp] theorem State.pushCall_stackPc : (s.pushCall).stackPc = s.pc := rfl
@[simp] theorem State.pushCall_stackCf : (s.pushCall).stackCf = s.stackCf := rfl
@[simp] theorem State.pushCall_sub : (s.pushCall).sub = true := rfl
@[simp] theorem State.pushCall_ie : (s.pushCall).ie = s.ie := rfl
@[simp] theorem State.pushCall_rtcl : (s.pushCall).rtcl = s.rtcl := rfl
@[simp] theorem State.pushCall_timer : (s.pushCall).timer = s.timer := rfl
@[simp] theorem State.pushCall_ton : (s.pushCall).ton = s.ton := rfl
@[simp] theorem State.pushCall_tf : (s.pushCall).tf = s.tf := rfl
@[simp] theorem State.pushCall_halted : (s.pushCall).halted = s.halted := rfl
@[simp] theorem State.pushCall_sndOn : (s.pushCall).sndOn = s.sndOn := rfl
@[simp] theorem State.pushCall_sndCh : (s.pushCall).sndCh = s.sndCh := rfl
@[simp] theorem State.pushCall_sndLoop : (s.pushCall).sndLoop = s.sndLoop := rfl
@[simp] theorem State.pushCall_ram : (s.pushCall).ram = s.ram := rfl
@[simp] theorem State.pushCall_rom : (s.pushCall).rom = s.rom := rfl
@[simp] theorem State.pushCall_config : (s.pushCall).config = s.config := rfl
@[simp] theorem State.pushCall_ps : (s.pushCall).ps = s.ps := rfl
@[simp] theorem State.pushCall_pp : (s.pushCall).pp = s.pp := rfl
@[simp] theorem State.pushCall_resetHeld : (s.pushCall).resetHeld = s.resetHeld := rfl
@[simp] theorem State.pushCall_schedule : (s.pushCall).schedule = s.schedule := rfl
@[simp] theorem State.pushCall_stackByCall : (s.pushCall).stackByCall = true := rfl
@[simp] theorem State.pushCall_free : (s.pushCall).free = s.free := rfl

end pushCall

section returnFromStack

variable (s : State)

@[simp] theorem State.returnFromStack_acc : (s.returnFromStack).acc = s.acc := rfl
@[simp] theorem State.returnFromStack_cf : (s.returnFromStack).cf = s.cf := rfl
@[simp] theorem State.returnFromStack_r0 : (s.returnFromStack).r0 = s.r0 := rfl
@[simp] theorem State.returnFromStack_r1 : (s.returnFromStack).r1 = s.r1 := rfl
@[simp] theorem State.returnFromStack_r2 : (s.returnFromStack).r2 = s.r2 := rfl
@[simp] theorem State.returnFromStack_r3 : (s.returnFromStack).r3 = s.r3 := rfl
@[simp] theorem State.returnFromStack_r4 : (s.returnFromStack).r4 = s.r4 := rfl
@[simp] theorem State.returnFromStack_pc : (s.returnFromStack).pc = s.stackPc := rfl
@[simp] theorem State.returnFromStack_pa : (s.returnFromStack).pa = s.pa := rfl
@[simp] theorem State.returnFromStack_stackPc : (s.returnFromStack).stackPc = s.stackPc := rfl
@[simp] theorem State.returnFromStack_stackCf : (s.returnFromStack).stackCf = s.stackCf := rfl
@[simp] theorem State.returnFromStack_sub : (s.returnFromStack).sub = false := rfl
@[simp] theorem State.returnFromStack_ie : (s.returnFromStack).ie = s.ie := rfl
@[simp] theorem State.returnFromStack_rtcl : (s.returnFromStack).rtcl = s.rtcl := rfl
@[simp] theorem State.returnFromStack_timer : (s.returnFromStack).timer = s.timer := rfl
@[simp] theorem State.returnFromStack_ton : (s.returnFromStack).ton = s.ton := rfl
@[simp] theorem State.returnFromStack_tf : (s.returnFromStack).tf = s.tf := rfl
@[simp] theorem State.returnFromStack_halted : (s.returnFromStack).halted = s.halted := rfl
@[simp] theorem State.returnFromStack_sndOn : (s.returnFromStack).sndOn = s.sndOn := rfl
@[simp] theorem State.returnFromStack_sndCh : (s.returnFromStack).sndCh = s.sndCh := rfl
@[simp] theorem State.returnFromStack_sndLoop : (s.returnFromStack).sndLoop = s.sndLoop := rfl
@[simp] theorem State.returnFromStack_ram : (s.returnFromStack).ram = s.ram := rfl
@[simp] theorem State.returnFromStack_rom : (s.returnFromStack).rom = s.rom := rfl
@[simp] theorem State.returnFromStack_config : (s.returnFromStack).config = s.config := rfl
@[simp] theorem State.returnFromStack_ps : (s.returnFromStack).ps = s.ps := rfl
@[simp] theorem State.returnFromStack_pp : (s.returnFromStack).pp = s.pp := rfl
@[simp] theorem State.returnFromStack_resetHeld : (s.returnFromStack).resetHeld = s.resetHeld := rfl
@[simp] theorem State.returnFromStack_schedule : (s.returnFromStack).schedule = s.schedule := rfl
@[simp] theorem State.returnFromStack_stackByCall : (s.returnFromStack).stackByCall = s.stackByCall := rfl
@[simp] theorem State.returnFromStack_free : (s.returnFromStack).free = s.free := rfl

end returnFromStack

section setReg

variable (s : State) (r q : Reg) (v : Nibble)

@[simp] theorem State.setReg_acc : (s.setReg r v).acc = s.acc := by cases r <;> rfl
@[simp] theorem State.setReg_cf : (s.setReg r v).cf = s.cf := by cases r <;> rfl
@[simp] theorem State.setReg_r0 : (s.setReg .r0 v).r0 = v := rfl
@[simp] theorem State.setReg_r1 : (s.setReg .r1 v).r1 = v := rfl
@[simp] theorem State.setReg_r2 : (s.setReg .r2 v).r2 = v := rfl
@[simp] theorem State.setReg_r3 : (s.setReg .r3 v).r3 = v := rfl
@[simp] theorem State.setReg_r4 : (s.setReg .r4 v).r4 = v := rfl
@[simp] theorem State.setReg_pc : (s.setReg r v).pc = s.pc := by cases r <;> rfl
@[simp] theorem State.setReg_pa : (s.setReg r v).pa = s.pa := by cases r <;> rfl
@[simp] theorem State.setReg_stackPc : (s.setReg r v).stackPc = s.stackPc := by cases r <;> rfl
@[simp] theorem State.setReg_stackCf : (s.setReg r v).stackCf = s.stackCf := by cases r <;> rfl
@[simp] theorem State.setReg_sub : (s.setReg r v).sub = s.sub := by cases r <;> rfl
@[simp] theorem State.setReg_ie : (s.setReg r v).ie = s.ie := by cases r <;> rfl
@[simp] theorem State.setReg_rtcl : (s.setReg r v).rtcl = s.rtcl := by cases r <;> rfl
@[simp] theorem State.setReg_timer : (s.setReg r v).timer = s.timer := by cases r <;> rfl
@[simp] theorem State.setReg_ton : (s.setReg r v).ton = s.ton := by cases r <;> rfl
@[simp] theorem State.setReg_tf : (s.setReg r v).tf = s.tf := by cases r <;> rfl
@[simp] theorem State.setReg_halted : (s.setReg r v).halted = s.halted := by cases r <;> rfl
@[simp] theorem State.setReg_sndOn : (s.setReg r v).sndOn = s.sndOn := by cases r <;> rfl
@[simp] theorem State.setReg_sndCh : (s.setReg r v).sndCh = s.sndCh := by cases r <;> rfl
@[simp] theorem State.setReg_sndLoop : (s.setReg r v).sndLoop = s.sndLoop := by cases r <;> rfl
@[simp] theorem State.setReg_ram : (s.setReg r v).ram = s.ram := by cases r <;> rfl
@[simp] theorem State.setReg_rom : (s.setReg r v).rom = s.rom := by cases r <;> rfl
@[simp] theorem State.setReg_config : (s.setReg r v).config = s.config := by cases r <;> rfl
@[simp] theorem State.setReg_ps : (s.setReg r v).ps = s.ps := by cases r <;> rfl
@[simp] theorem State.setReg_pp : (s.setReg r v).pp = s.pp := by cases r <;> rfl
@[simp] theorem State.setReg_resetHeld : (s.setReg r v).resetHeld = s.resetHeld := by cases r <;> rfl
@[simp] theorem State.setReg_schedule : (s.setReg r v).schedule = s.schedule := by cases r <;> rfl
@[simp] theorem State.setReg_stackByCall : (s.setReg r v).stackByCall = s.stackByCall := by cases r <;> rfl
@[simp] theorem State.setReg_free : (s.setReg r v).free = s.free := by cases r <;> rfl

theorem State.setReg_reg : (s.setReg r v).reg q = if q = r then v else s.reg q := by
  cases r <;> cases q <;> rfl

@[simp] theorem State.setReg_reg_same : (s.setReg r v).reg r = v := by simp [State.setReg_reg]

@[simp] theorem State.setReg_reg_other (h : q ≠ r) : (s.setReg r v).reg q = s.reg q := by
  simp [State.setReg_reg, h]

end setReg

section reg

variable (s : State) (r : Reg)

@[simp] theorem State.setAcc_reg (v : Nibble) : (s.setAcc v).reg r = s.reg r := by cases r <;> rfl
@[simp] theorem State.setCf_reg (c : Bool) : (s.setCf c).reg r = s.reg r := by cases r <;> rfl
@[simp] theorem State.setPc_reg (a : CodeAddr) : (s.setPc a).reg r = s.reg r := by cases r <;> rfl
@[simp] theorem State.setTimer_reg (v : Byte) : (s.setTimer v).reg r = s.reg r := by cases r <;> rfl
@[simp] theorem State.store_reg (a : DataAddr) (v : Nibble) : (s.store a v).reg r = s.reg r := by cases r <;> rfl
@[simp] theorem State.drawn_reg : (s.drawn).reg r = s.reg r := by cases r <;> rfl
@[simp] theorem State.pushCall_reg : (s.pushCall).reg r = s.reg r := by cases r <;> rfl
@[simp] theorem State.returnFromStack_reg : (s.returnFromStack).reg r = s.reg r := by cases r <;> rfl

end reg

end Sys2Proof.Machine
end

