-- ==== Sys2Proof/Laws/Ops.lean ====
section
/-! SUPPORT. One lemma per shared operation that says all it can do; later proofs cite it instead of unfolding the
operation. -/

namespace Sys2Proof.Machine

/-- The program address is bank and PC side by side (R14, R43). -/
theorem romKey_eq (bank : Bool) (a : CodeAddr) : romKey bank a = (if bank then 4096 else 0) + a.toNat := by
  rw [romKey, BitVec.toNat_append, Nat.shiftLeft_eq, Nat.mul_comm, ← Nat.two_pow_add_eq_or_of_lt a.isLt]
  cases bank <;> rfl

theorem romKey_lt (bank : Bool) (a : CodeAddr) : romKey bank a < romSize :=
  (BitVec.ofBool bank ++ a).isLt

theorem takeInterrupt_rtc (s : State) (h : s.rtcl = true) :
    s.takeInterrupt = { s with
      stackPc := s.pc, stackCf := s.cf, sub := true, stackByCall := false, rtcl := false, pc := rtcVector } := by
  simp [State.takeInterrupt, h]

theorem takeInterrupt_timer (s : State) (h : s.rtcl = false) :
    s.takeInterrupt = { s with
      stackPc := s.pc, stackCf := s.cf, sub := true, stackByCall := false, tf := false, pc := timerVector } := by
  simp [State.takeInterrupt, h]

theorem restoreCarry_interrupt (s : State) (h : s.stackByCall = false) : s.restoreCarry = s.setCf s.stackCf := by
  simp [State.restoreCarry, h]

theorem restoreCarry_call (s : State) (h : s.stackByCall = true) :
    s.restoreCarry = (s.setCf (s.anyBit .cf)).drawn := by
  simp [State.restoreCarry, h]

/-- A conditional jump writes PC and nothing else. -/
theorem jumpIf_eq (s : State) (cond : Bool) (addr : JumpAddr) :
    s.jumpIf cond addr = s.setPc (if cond then s.jumpTarget addr else s.pc) := by
  cases cond <;> rfl

theorem timerTick_idle (s : State) (h : (s.ton && !s.halted) = false) : s.timerTick = s := by
  simp [State.timerTick, h]

theorem timerTick_overflow (s : State) (h : (s.ton && !s.halted) = true) (hf : s.timer = 0xFF) :
    s.timerTick = { s with timer := 0x00, tf := true } := by
  simp only [State.timerTick, h, hf, if_true]

theorem timerTick_count (s : State) (h : (s.ton && !s.halted) = true) (hf : s.timer ≠ 0xFF) :
    s.timerTick = { s with timer := s.timer + 1 } := by
  simp only [State.timerTick, h, hf, if_true, if_false]

theorem soundEnd_eq (s : State) :
    s.soundEnd = { s with sndOn := if s.sndOn && !s.halted then s.sndLoop else s.sndOn } := by
  unfold State.soundEnd
  split <;> rfl

/-- A move of the pins changes the pins, may end HALT mode, and draws free values; nothing else. -/
theorem setPins_eq (s : State) (ps pp : Pins) :
    ∃ h, (s.halted = false → h = false) ∧ s.setPins ps pp = { s with ps := ps, pp := pp, halted := h, free := s.free + 2 } :=
  ⟨_, by intro h; simp [h], rfl⟩

theorem rtcEvent_eq (s : State) : s.rtcEvent = { s with rtcl := true, halted := false } := rfl

/-- Drawing a round changes the schedule and the count of free values, and nothing else. -/
theorem nextRound_eq (s : State) : s.nextRound = { s with schedule := s.round, free := s.free + 1 } := rfl

/-- A round splits at the timer's move, at the RTC's move and at the CPU's move, which is its last. -/
theorem round_eq (s : State) : ∃ a b c d, s.round = a ++ .timerTick :: (b ++ .rtcEvent :: (c ++ [.cpu d])) :=
  ⟨_, _, _, _, rfl⟩

/-- An edge of a pin that is enabled for wake-up. -/
theorem fallingEdge_iff (wake old new : Nibble) :
    fallingEdge wake old new = true ↔
      ∃ k : Fin 4, wake.getLsbD k = true ∧ old.getLsbD k = true ∧ new.getLsbD k = false := by
  revert wake old new; decide

/-- Bit `k` of a port is the level of pin `k` (R150, D5). -/
theorem levels_getLsbD (p : Pins) (pull float : Nibble) (k : Fin 4) :
    (p.levels pull float).getLsbD k = (p.drive k).level (pull.getLsbD k) (float.getLsbD k) := by
  have bits : ∀ b3 b2 b1 b0 : Bool,
      (BitVec.ofBool b3 ++ BitVec.ofBool b2 ++ BitVec.ofBool b1 ++ BitVec.ofBool b0 : Nibble).getLsbD 0 = b0 ∧
      (BitVec.ofBool b3 ++ BitVec.ofBool b2 ++ BitVec.ofBool b1 ++ BitVec.ofBool b0 : Nibble).getLsbD 1 = b1 ∧
      (BitVec.ofBool b3 ++ BitVec.ofBool b2 ++ BitVec.ofBool b1 ++ BitVec.ofBool b0 : Nibble).getLsbD 2 = b2 ∧
      (BitVec.ofBool b3 ++ BitVec.ofBool b2 ++ BitVec.ofBool b1 ++ BitVec.ofBool b0 : Nibble).getLsbD 3 = b3 := by
    decide
  match k with
  | 0 => exact (bits _ _ _ _).1
  | 1 => exact (bits _ _ _ _).2.1
  | 2 => exact (bits _ _ _ _).2.2.1
  | 3 => exact (bits _ _ _ _).2.2.2

/-- RES active: what the spec lists takes its reset value, the parameters and the outside world stay (R32, R251). -/
theorem resetChip_spec (s : State) :
    s.resetChip.pc = 0x000 ∧ s.resetChip.pa = 0b1011 ∧ s.resetChip.ton = false ∧ s.resetChip.tf = false ∧
      s.resetChip.sndOn = false ∧ s.resetChip.sndLoop = false ∧ s.resetChip.ie = false ∧
      s.resetChip.halted = false ∧ s.resetChip.sub = false ∧ s.resetChip.rtcl = false ∧
      s.resetChip.rom = s.rom ∧ s.resetChip.config = s.config ∧ s.resetChip.ps = s.ps ∧ s.resetChip.pp = s.pp ∧
      s.resetChip.schedule = s.schedule ∧ s.resetChip.resetHeld = s.resetHeld ∧
      s.resetChip.ram.wf ramSize = true :=
  ⟨rfl, rfl, rfl, rfl, rfl, rfl, rfl, rfl, rfl, rfl, rfl, rfl, rfl, rfl, rfl, rfl,
    Memory.wf_tabulate _ _ (Nat.le_refl _)⟩

/-- A result and its carry go to ACC and CF, and nowhere else. -/
theorem setAccCf_eq (s : State) (r : Nibble × Bool) : s.setAccCf r = { s with acc := r.1, cf := r.2 } := rfl

theorem setPair_p10 (s : State) (d : Byte) : s.setPair .p10 d = { s with r1 := hiNibble d, r0 := loNibble d } := rfl

theorem setPair_p32 (s : State) (d : Byte) : s.setPair .p32 d = { s with r3 := hiNibble d, r2 := loNibble d } := rfl

theorem readPort_eq (s : State) (p : Port) : s.readPort p = { s with acc := s.inPort p, free := s.free + 1 } := rfl

theorem readToR4_eq (s : State) (b : Byte) : s.readToR4 b = { s with r4 := hiNibble b, acc := loNibble b } := rfl

theorem readToMemory_eq (s : State) (b : Byte) :
    s.readToMemory b = { s.storePair .p10 (hiNibble b) with acc := loNibble b } := rfl

/-- Two bit vectors side by side, as a number. -/
theorem append_toNat {v w : Nat} (x : BitVec v) (y : BitVec w) : (x ++ y).toNat = 2 ^ w * x.toNat + y.toNat := by
  rw [BitVec.toNat_append, Nat.shiftLeft_eq, Nat.mul_comm, ← Nat.two_pow_add_eq_or_of_lt y.isLt]

/-- The address of a pair: high nibble in the first-named register (R13). -/
theorem pairAddr_toNat (s : State) :
    (s.pairAddr .p10).toNat = 2 ^ 4 * s.r1.toNat + s.r0.toNat ∧ (s.pairAddr .p32).toNat = 2 ^ 4 * s.r3.toNat + s.r2.toNat :=
  ⟨append_toNat _ _, append_toNat _ _⟩

/-- The two nibbles of a byte, as numbers. -/
theorem nibbles_toNat (b : Byte) : (hiNibble b).toNat = b.toNat / 16 ∧ (loNibble b).toNat = b.toNat % 16 := by
  revert b; decide

/-- A table-read address: page, ACC, low nibble (R191). -/
theorem tableAddr_toNat (page acc low : Nibble) :
    (tableAddr page acc low).toNat = 256 * page.toNat + 16 * acc.toNat + low.toNat := by
  simp only [tableAddr, append_toNat]; omega

theorem currentPage_toNat (s : State) : s.currentPage.toNat = s.pc.toNat / 256 := by
  have := s.pc.isLt
  simp only [State.currentPage, BitVec.extractLsb'_toNat, Nat.shiftRight_eq_div_pow]; omega

/-- The target of a conditional jump: the kept bit 11 above the address (R168). -/
theorem jumpTarget_spec (s : State) (addr : JumpAddr) :
    (s.jumpTarget addr).toNat = 2048 * s.keptBit11.toNat + addr.toNat ∧ (s.jumpTarget addr).getLsbD 11 = s.keptBit11 := by
  refine ⟨?_, ?_⟩
  · rw [State.jumpTarget, append_toNat]; cases s.keptBit11 <;> rfl
  · rw [State.jumpTarget, BitVec.getLsbD_append]
    cases s.keptBit11 <;> rfl

end Sys2Proof.Machine
end

