-- ==== Sys2Proof/Laws/PerInstr.lean ====
section
/-! SUPPORT. Facts about every instruction as syntax, one lemma per constructor. -/

namespace Sys2Proof.Laws

/-- `encode` gives as many bytes as the instruction's length says, under every configuration (R60, R61). -/
def EncodeLength.Statement (i : Instr) : Prop := ∀ c : Config, (encode c i).length = i.length

theorem EncodeLength.rrA : EncodeLength.Statement .rrA := fun _ => rfl
theorem EncodeLength.rlA : EncodeLength.Statement .rlA := fun _ => rfl
theorem EncodeLength.rrcA : EncodeLength.Statement .rrcA := fun _ => rfl
theorem EncodeLength.rlcA : EncodeLength.Statement .rlcA := fun _ => rfl
theorem EncodeLength.movAM10 : EncodeLength.Statement .movAM10 := fun _ => rfl
theorem EncodeLength.movM10A : EncodeLength.Statement .movM10A := fun _ => rfl
theorem EncodeLength.movAM32 : EncodeLength.Statement .movAM32 := fun _ => rfl
theorem EncodeLength.movM32A : EncodeLength.Statement .movM32A := fun _ => rfl
theorem EncodeLength.adcAM10 : EncodeLength.Statement .adcAM10 := fun _ => rfl
theorem EncodeLength.addAM10 : EncodeLength.Statement .addAM10 := fun _ => rfl
theorem EncodeLength.sbcAM10 : EncodeLength.Statement .sbcAM10 := fun _ => rfl
theorem EncodeLength.subAM10 : EncodeLength.Statement .subAM10 := fun _ => rfl
theorem EncodeLength.incM10 : EncodeLength.Statement .incM10 := fun _ => rfl
theorem EncodeLength.decM10 : EncodeLength.Statement .decM10 := fun _ => rfl
theorem EncodeLength.incM32 : EncodeLength.Statement .incM32 := fun _ => rfl
theorem EncodeLength.decM32 : EncodeLength.Statement .decM32 := fun _ => rfl
theorem EncodeLength.incR0 : EncodeLength.Statement .incR0 := fun _ => rfl
theorem EncodeLength.decR0 : EncodeLength.Statement .decR0 := fun _ => rfl
theorem EncodeLength.incR1 : EncodeLength.Statement .incR1 := fun _ => rfl
theorem EncodeLength.decR1 : EncodeLength.Statement .decR1 := fun _ => rfl
theorem EncodeLength.incR2 : EncodeLength.Statement .incR2 := fun _ => rfl
theorem EncodeLength.decR2 : EncodeLength.Statement .decR2 := fun _ => rfl
theorem EncodeLength.incR3 : EncodeLength.Statement .incR3 := fun _ => rfl
theorem EncodeLength.decR3 : EncodeLength.Statement .decR3 := fun _ => rfl
theorem EncodeLength.incR4 : EncodeLength.Statement .incR4 := fun _ => rfl
theorem EncodeLength.decR4 : EncodeLength.Statement .decR4 := fun _ => rfl
theorem EncodeLength.andAM10 : EncodeLength.Statement .andAM10 := fun _ => rfl
theorem EncodeLength.xorAM10 : EncodeLength.Statement .xorAM10 := fun _ => rfl
theorem EncodeLength.orAM10 : EncodeLength.Statement .orAM10 := fun _ => rfl
theorem EncodeLength.andM10A : EncodeLength.Statement .andM10A := fun _ => rfl
theorem EncodeLength.xorM10A : EncodeLength.Statement .xorM10A := fun _ => rfl
theorem EncodeLength.orM10A : EncodeLength.Statement .orM10A := fun _ => rfl
theorem EncodeLength.movR0A : EncodeLength.Statement .movR0A := fun _ => rfl
theorem EncodeLength.movAR0 : EncodeLength.Statement .movAR0 := fun _ => rfl
theorem EncodeLength.movR1A : EncodeLength.Statement .movR1A := fun _ => rfl
theorem EncodeLength.movAR1 : EncodeLength.Statement .movAR1 := fun _ => rfl
theorem EncodeLength.movR2A : EncodeLength.Statement .movR2A := fun _ => rfl
theorem EncodeLength.movAR2 : EncodeLength.Statement .movAR2 := fun _ => rfl
theorem EncodeLength.movR3A : EncodeLength.Statement .movR3A := fun _ => rfl
theorem EncodeLength.movAR3 : EncodeLength.Statement .movAR3 := fun _ => rfl
theorem EncodeLength.movR4A : EncodeLength.Statement .movR4A := fun _ => rfl
theorem EncodeLength.movAR4 : EncodeLength.Statement .movAR4 := fun _ => rfl
theorem EncodeLength.clc : EncodeLength.Statement .clc := fun _ => rfl
theorem EncodeLength.stc : EncodeLength.Statement .stc := fun _ => rfl
theorem EncodeLength.ei : EncodeLength.Statement .ei := fun _ => rfl
theorem EncodeLength.di : EncodeLength.Statement .di := fun _ => rfl
theorem EncodeLength.ret : EncodeLength.Statement .ret := fun _ => rfl
theorem EncodeLength.reti : EncodeLength.Statement .reti := fun _ => rfl
theorem EncodeLength.outPaA : EncodeLength.Statement .outPaA := fun _ => rfl
theorem EncodeLength.incA : EncodeLength.Statement .incA := fun _ => rfl
theorem EncodeLength.inAPs : EncodeLength.Statement .inAPs := fun _ => rfl
theorem EncodeLength.inAPp : EncodeLength.Statement .inAPp := fun _ => rfl
theorem EncodeLength.daa : EncodeLength.Statement .daa := fun _ => rfl
theorem EncodeLength.halt : EncodeLength.Statement .halt := fun _ => rfl
theorem EncodeLength.timerOn : EncodeLength.Statement .timerOn := fun _ => rfl
theorem EncodeLength.timerOff : EncodeLength.Statement .timerOff := fun _ => rfl
theorem EncodeLength.movATmrl : EncodeLength.Statement .movATmrl := fun _ => rfl
theorem EncodeLength.movATmrh : EncodeLength.Statement .movATmrh := fun _ => rfl
theorem EncodeLength.movTmrlA : EncodeLength.Statement .movTmrlA := fun _ => rfl
theorem EncodeLength.movTmrhA : EncodeLength.Statement .movTmrhA := fun _ => rfl
theorem EncodeLength.nop : EncodeLength.Statement .nop := fun _ => rfl
theorem EncodeLength.decA : EncodeLength.Statement .decA := fun _ => rfl
theorem EncodeLength.addAImm (d : Nibble) : EncodeLength.Statement (.addAImm d) := fun _ => rfl
theorem EncodeLength.subAImm (d : Nibble) : EncodeLength.Statement (.subAImm d) := fun _ => rfl
theorem EncodeLength.andAImm (d : Nibble) : EncodeLength.Statement (.andAImm d) := fun _ => rfl
theorem EncodeLength.xorAImm (d : Nibble) : EncodeLength.Statement (.xorAImm d) := fun _ => rfl
theorem EncodeLength.orAImm (d : Nibble) : EncodeLength.Statement (.orAImm d) := fun _ => rfl
theorem EncodeLength.soundImm (n : Nibble) : EncodeLength.Statement (.soundImm n) := fun _ => rfl
theorem EncodeLength.movR4Imm (d : Nibble) : EncodeLength.Statement (.movR4Imm d) := fun _ => rfl
theorem EncodeLength.timerImm (d : Byte) : EncodeLength.Statement (.timerImm d) := fun _ => rfl
theorem EncodeLength.soundOne : EncodeLength.Statement .soundOne := fun _ => rfl
theorem EncodeLength.soundLoop : EncodeLength.Statement .soundLoop := fun _ => rfl
theorem EncodeLength.soundOff : EncodeLength.Statement .soundOff := fun _ => rfl
theorem EncodeLength.soundA : EncodeLength.Statement .soundA := fun _ => rfl
theorem EncodeLength.readR4A : EncodeLength.Statement .readR4A := fun _ => rfl
theorem EncodeLength.readfR4A : EncodeLength.Statement .readfR4A := fun _ => rfl
theorem EncodeLength.readMr0A : EncodeLength.Statement .readMr0A := fun _ => rfl
theorem EncodeLength.readfMr0A : EncodeLength.Statement .readfMr0A := fun _ => rfl
theorem EncodeLength.movR1R0Imm (d : Byte) : EncodeLength.Statement (.movR1R0Imm d) := by
  intro c; simp only [encode, pairBytes]; split <;> rfl
theorem EncodeLength.movR3R2Imm (d : Byte) : EncodeLength.Statement (.movR3R2Imm d) := by
  intro c; simp only [encode, pairBytes]; split <;> rfl
theorem EncodeLength.movAImm (d : Nibble) : EncodeLength.Statement (.movAImm d) := fun _ => rfl
theorem EncodeLength.ja0 (addr : JumpAddr) : EncodeLength.Statement (.ja0 addr) := fun _ => rfl
theorem EncodeLength.ja1 (addr : JumpAddr) : EncodeLength.Statement (.ja1 addr) := fun _ => rfl
theorem EncodeLength.ja2 (addr : JumpAddr) : EncodeLength.Statement (.ja2 addr) := fun _ => rfl
theorem EncodeLength.ja3 (addr : JumpAddr) : EncodeLength.Statement (.ja3 addr) := fun _ => rfl
theorem EncodeLength.jnzR0 (addr : JumpAddr) : EncodeLength.Statement (.jnzR0 addr) := fun _ => rfl
theorem EncodeLength.jnzR1 (addr : JumpAddr) : EncodeLength.Statement (.jnzR1 addr) := fun _ => rfl
theorem EncodeLength.jzA (addr : JumpAddr) : EncodeLength.Statement (.jzA addr) := fun _ => rfl
theorem EncodeLength.jnzA (addr : JumpAddr) : EncodeLength.Statement (.jnzA addr) := fun _ => rfl
theorem EncodeLength.jc (addr : JumpAddr) : EncodeLength.Statement (.jc addr) := fun _ => rfl
theorem EncodeLength.jnc (addr : JumpAddr) : EncodeLength.Statement (.jnc addr) := fun _ => rfl
theorem EncodeLength.jtmr (addr : JumpAddr) : EncodeLength.Statement (.jtmr addr) := fun _ => rfl
theorem EncodeLength.jnzR4 (addr : JumpAddr) : EncodeLength.Statement (.jnzR4 addr) := fun _ => rfl
theorem EncodeLength.jmp (addr : CodeAddr) : EncodeLength.Statement (.jmp addr) := fun _ => rfl
theorem EncodeLength.call (addr : CodeAddr) : EncodeLength.Statement (.call addr) := fun _ => rfl

end Sys2Proof.Laws
end

