-- ==== Sys2Proof/Laws/Step.lean ====
section
/-! SUPPORT. What a step can do, said once: the inversion lemmas of the CPU's move and of `step`, the same forwards, the
fetch that `withFetchWord` prepares, and the levels of pins that the spec fixes. -/

namespace Sys2Proof.Machine

/-- The three ways the CPU's move answers a next state. -/
theorem cpuStep_next {d : Bool} {s t : State} (h : cpuStep d s = .next t) :
    ((s.resetHeld || s.halted) = true ∧ t = s) ∨
    ((s.resetHeld || s.halted) = false ∧ s.interruptFirst d = true ∧ t = s.takeInterrupt) ∨
    ((s.resetHeld || s.halted) = false ∧ s.interruptFirst d = false ∧
      ∃ i, s.fetched = .ok i ∧ exec i (s.setPc (s.npc i.length)) = .next t) := by
  unfold cpuStep at h
  split at h
  · rename_i hw
    cases h
    exact .inl ⟨hw, rfl⟩
  · rename_i hw
    split at h
    · rename_i hi
      cases h
      exact .inr (.inl ⟨by simpa using hw, hi, rfl⟩)
    · rename_i hi
      unfold runInstruction at h
      split at h
      · rename_i i hf
        exact .inr (.inr ⟨by simpa using hw, by simpa using hi, i, hf, h⟩)
      · cases h

/-- A step draws a round, or is the CPU's move, or a device's move that always answers a next state. -/
theorem step_next {s t : State} (h : step s = .next t) :
    (s.schedule = [] ∧ t = s.nextRound) ∨
    (∃ d rest, s.schedule = .cpu d :: rest ∧ cpuStep d { s with schedule := rest } = .next t) ∨
    (∃ m rest, s.schedule = m :: rest ∧ (∀ d, m ≠ .cpu d) ∧ t = State.deviceMove { s with schedule := rest } m) := by
  unfold step at h
  split at h
  · rename_i hs
    cases h
    exact .inl ⟨hs, rfl⟩
  · rename_i m rest hs
    unfold runMove at h
    split at h
    · exact .inr (.inl ⟨_, rest, hs, h⟩)
    · rename_i hm
      cases h
      exact .inr (.inr ⟨m, rest, hs, hm, rfl⟩)

/-- A running CPU with no interrupt in the way runs the instruction at PC. -/
theorem cpuStep_run {d : Bool} {s : State} (hr : s.resetHeld = false) (hh : s.halted = false)
    (hi : s.interruptFirst d = false) : cpuStep d s = runInstruction s := by
  simp [cpuStep, hr, hh, hi]

/-- A running CPU with an interrupt to enter enters it. -/
theorem cpuStep_interrupt {d : Bool} {s : State} (hr : s.resetHeld = false) (hh : s.halted = false)
    (hi : s.interruptFirst d = true) : cpuStep d s = .next s.takeInterrupt := by
  simp [cpuStep, hr, hh, hi]

/-- A step that is the CPU's. -/
theorem step_of_cpu {s : State} {d : Bool} {rest : List Move} (h : s.schedule = .cpu d :: rest) :
    step s = cpuStep d { s with schedule := rest } := by
  simp [step, h, runMove]

/-- A step with nothing left to move draws the next round. -/
theorem step_of_empty {s : State} (h : s.schedule = []) : step s = .next s.nextRound := by
  simp [step, h]

/-- A step that is a device's. -/
theorem step_of_device {s : State} {m : Move} {rest : List Move} (h : s.schedule = m :: rest) (hm : ∀ d, m ≠ .cpu d) :
    step s = .next (State.deviceMove { s with schedule := rest } m) := by
  unfold step
  rw [h]
  cases m with
  | cpu d => exact absurd rfl (hm d)
  | _ => rfl

/-- A pin the spec fixes high reads 1, whatever floating pins read. -/
theorem levels_of_isHigh {p : Pins} {pull : Nibble} {k : Fin 4} (h : p.IsHigh pull k) (float : Nibble) :
    (p.levels pull float).getLsbD k = true := by
  rw [levels_getLsbD]
  rcases h with h | ⟨h, hp⟩
  · rw [h]; rfl
  · rw [h, hp]; rfl

/-- A pin driven low reads 0. -/
theorem levels_of_isLow {p : Pins} {k : Fin 4} (h : p.IsLow k) (pull float : Nibble) :
    (p.levels pull float).getLsbD k = false := by
  rw [levels_getLsbD, show p.drive k = .low from h]; rfl

/-- What the placed bytes are when they are fetched. -/
theorem placeBytes_fetch (s : State) (b0 b1 : Byte) :
    (s.placeBytes b0 b1).firstByte = b0 ∧ (s.placeBytes b0 b1).secondByte = b1 := by
  have hne : romKey s.bank s.pc ≠ romKey s.bank (s.pc + 1) := by
    rw [romKey_eq, romKey_eq]
    intro h
    have h' : s.pc = s.pc + 1 := BitVec.eq_of_toNat_eq (Nat.add_left_cancel h)
    bv_omega
  refine ⟨?_, Memory.read_write_same _ _ _⟩
  exact (Memory.read_write_other _ _ hne).trans (Memory.read_write_same _ _ _)

end Sys2Proof.Machine
end

