-- ==== Sys2Proof/Tests/Slice0.lean ====
section
/-! SUPPORT. Tests of the model: the checks refuse ill-formed terms; every constructor's encoding, bit by bit from the
`encoding` column of spec/opcode_table.json; one step of each instruction, with the expected values of
spec/95_test_vectors.md part 2 (or, where that file has none, by hand from the rule named); and for every obligation with
hypotheses a witness that meets them. -/

namespace Sys2Proof.Tests

open Sys2Proof Sys2Proof.Machine

/-! The well-formedness checks refuse. -/

/-- A chip of which only the sourced encodings are admitted (R73). -/
def sourcedOnly : Config := { Config.default with admitUnsourced := false }

/-- The other reading of the pair immediates (R65). -/
def highFirst : Config := { Config.default with pairOrder := .highFirst }

theorem test_unsourced_not_wellFormed : Instr.subAM10.wellFormed sourcedOnly = false := by decide
theorem test_config_refuses_reserved_divider : { Config.default with timerDiv := 6 }.wf = false := by decide
theorem test_memory_refuses_disorder : Memory.wf (w := 4) ramSize [(7, 1), (3, 1)] = false := by decide
theorem test_memory_refuses_repeat : Memory.wf (w := 4) ramSize [(7, 1), (7, 2)] = false := by decide
theorem test_memory_refuses_listed_blank : Memory.wf (w := 4) ramSize [(7, 0)] = false := by decide
theorem test_memory_refuses_outside_address : Memory.wf (w := 4) ramSize [(256, 1)] = false := by decide
theorem test_memory_write_blank_removes : Memory.write (w := 4) [(3, 1), (7, 2)] 3 0 = [(7, 2)] := by decide

/-! Decoding and encoding. -/

/-- A row of the tests: two bytes and the instruction they are. -/
structure Row where
  b0 : Byte
  b1 : Byte
  instr : Instr

/-- The bytes decode to the instruction, and it encodes to them. -/
def Row.holds (c : Config) (r : Row) : Bool :=
  decide (decode c r.b0 r.b1 = .ok r.instr) &&
  decide (encode c r.instr = if r.instr.length = 1 then [r.b0] else [r.b0, r.b1])

def rows00to0F : List Row := [
  ⟨0b00000000, 0b10100101, .rrA⟩,
  ⟨0b00000001, 0b10100101, .rlA⟩,
  ⟨0b00000010, 0b10100101, .rrcA⟩,
  ⟨0b00000011, 0b10100101, .rlcA⟩,
  ⟨0b00000100, 0b10100101, .movAM10⟩,
  ⟨0b00000101, 0b10100101, .movM10A⟩,
  ⟨0b00000110, 0b10100101, .movAM32⟩,
  ⟨0b00000111, 0b10100101, .movM32A⟩,
  ⟨0b00001000, 0b10100101, .adcAM10⟩,
  ⟨0b00001001, 0b10100101, .addAM10⟩,
  ⟨0b00001010, 0b10100101, .sbcAM10⟩,
  ⟨0b00001011, 0b10100101, .subAM10⟩,
  ⟨0b00001100, 0b10100101, .incM10⟩,
  ⟨0b00001101, 0b10100101, .decM10⟩,
  ⟨0b00001110, 0b10100101, .incM32⟩,
  ⟨0b00001111, 0b10100101, .decM32⟩]
theorem test_rows00to0F : rows00to0F.all (Row.holds Config.default) = true := by decide

def rows10to1F : List Row := [
  ⟨0b00010000, 0b10100101, .incR0⟩,
  ⟨0b00010001, 0b10100101, .decR0⟩,
  ⟨0b00010010, 0b10100101, .incR1⟩,
  ⟨0b00010011, 0b10100101, .decR1⟩,
  ⟨0b00010100, 0b10100101, .incR2⟩,
  ⟨0b00010101, 0b10100101, .decR2⟩,
  ⟨0b00010110, 0b10100101, .incR3⟩,
  ⟨0b00010111, 0b10100101, .decR3⟩,
  ⟨0b00011000, 0b10100101, .incR4⟩,
  ⟨0b00011001, 0b10100101, .decR4⟩,
  ⟨0b00011010, 0b10100101, .andAM10⟩,
  ⟨0b00011011, 0b10100101, .xorAM10⟩,
  ⟨0b00011100, 0b10100101, .orAM10⟩,
  ⟨0b00011101, 0b10100101, .andM10A⟩,
  ⟨0b00011110, 0b10100101, .xorM10A⟩,
  ⟨0b00011111, 0b10100101, .orM10A⟩]
theorem test_rows10to1F : rows10to1F.all (Row.holds Config.default) = true := by decide

def rows20to2F : List Row := [
  ⟨0b00100000, 0b10100101, .movR0A⟩,
  ⟨0b00100001, 0b10100101, .movAR0⟩,
  ⟨0b00100010, 0b10100101, .movR1A⟩,
  ⟨0b00100011, 0b10100101, .movAR1⟩,
  ⟨0b00100100, 0b10100101, .movR2A⟩,
  ⟨0b00100101, 0b10100101, .movAR2⟩,
  ⟨0b00100110, 0b10100101, .movR3A⟩,
  ⟨0b00100111, 0b10100101, .movAR3⟩,
  ⟨0b00101000, 0b10100101, .movR4A⟩,
  ⟨0b00101001, 0b10100101, .movAR4⟩,
  ⟨0b00101010, 0b10100101, .clc⟩,
  ⟨0b00101011, 0b10100101, .stc⟩,
  ⟨0b00101100, 0b10100101, .ei⟩,
  ⟨0b00101101, 0b10100101, .di⟩,
  ⟨0b00101110, 0b10100101, .ret⟩,
  ⟨0b00101111, 0b10100101, .reti⟩]
theorem test_rows20to2F : rows20to2F.all (Row.holds Config.default) = true := by decide

def rows30to3F : List Row := [
  ⟨0b00110000, 0b10100101, .outPaA⟩,
  ⟨0b00110001, 0b10100101, .incA⟩,
  ⟨0b00110011, 0b10100101, .inAPs⟩,
  ⟨0b00110100, 0b10100101, .inAPp⟩,
  ⟨0b00110110, 0b10100101, .daa⟩,
  ⟨0b00110111, 0b00111110, .halt⟩,
  ⟨0b00111000, 0b10100101, .timerOn⟩,
  ⟨0b00111001, 0b10100101, .timerOff⟩,
  ⟨0b00111010, 0b10100101, .movATmrl⟩,
  ⟨0b00111011, 0b10100101, .movATmrh⟩,
  ⟨0b00111100, 0b10100101, .movTmrlA⟩,
  ⟨0b00111101, 0b10100101, .movTmrhA⟩,
  ⟨0b00111110, 0b10100101, .nop⟩,
  ⟨0b00111111, 0b10100101, .decA⟩]
theorem test_rows30to3F : rows30to3F.all (Row.holds Config.default) = true := by decide

def rows40to4F : List Row := [
  ⟨0b01000000, 0b00000110, .addAImm 6⟩,
  ⟨0b01000001, 0b00001010, .subAImm 10⟩,
  ⟨0b01000010, 0b00000011, .andAImm 3⟩,
  ⟨0b01000011, 0b00001111, .xorAImm 15⟩,
  ⟨0b01000100, 0b00000001, .orAImm 1⟩,
  ⟨0b01000101, 0b00001100, .soundImm 12⟩,
  ⟨0b01000110, 0b00001011, .movR4Imm 11⟩,
  ⟨0b01000111, 0b00111100, .timerImm 0x3C⟩,
  ⟨0b01001000, 0b10100101, .soundOne⟩,
  ⟨0b01001001, 0b10100101, .soundLoop⟩,
  ⟨0b01001010, 0b10100101, .soundOff⟩,
  ⟨0b01001011, 0b10100101, .soundA⟩,
  ⟨0b01001100, 0b10100101, .readR4A⟩,
  ⟨0b01001101, 0b10100101, .readfR4A⟩,
  ⟨0b01001110, 0b10100101, .readMr0A⟩,
  ⟨0b01001111, 0b10100101, .readfMr0A⟩]
theorem test_rows40to4F : rows40to4F.all (Row.holds Config.default) = true := by decide

def rowsPairAndImm : List Row := [
  ⟨0b01011100, 0b00001001, .movR1R0Imm 0x9C⟩,
  ⟨0b01101100, 0b00001001, .movR3R2Imm 0x9C⟩,
  ⟨0b01111100, 0b10100101, .movAImm 12⟩]
theorem test_rowsPairAndImm : rowsPairAndImm.all (Row.holds Config.default) = true := by decide

def rowsJumps : List Row := [
  ⟨0b10000101, 0b11011011, .ja0 0x5DB⟩,
  ⟨0b10001110, 0b00101110, .ja1 0x62E⟩,
  ⟨0b10010110, 0b10000001, .ja2 0x681⟩,
  ⟨0b10011110, 0b11010100, .ja3 0x6D4⟩,
  ⟨0b10100111, 0b00100111, .jnzR0 0x727⟩,
  ⟨0b10101111, 0b01111010, .jnzR1 0x77A⟩,
  ⟨0b10110111, 0b11001101, .jzA 0x7CD⟩,
  ⟨0b10111000, 0b00100000, .jnzA 0x020⟩,
  ⟨0b11000000, 0b01110011, .jc 0x073⟩,
  ⟨0b11001000, 0b11000110, .jnc 0x0C6⟩,
  ⟨0b11010001, 0b00011001, .jtmr 0x119⟩,
  ⟨0b11011001, 0b01101100, .jnzR4 0x16C⟩]
theorem test_rowsJumps : rowsJumps.all (Row.holds Config.default) = true := by decide

def rowsJmpCall : List Row := [
  ⟨0b11101010, 0b10111100, .jmp 0xABC⟩,
  ⟨0b11110001, 0b00100011, .call 0x123⟩]
theorem test_rowsJmpCall : rowsJmpCall.all (Row.holds Config.default) = true := by decide

/-- The same bytes under `PAIR_IMM_ORDER = high_first` (spec/95_test_vectors.md 2.4). -/
theorem test_pair_high_first : Row.holds highFirst ⟨0b01011100, 0b00001001, .movR1R0Imm 0xC9⟩ = true := by decide
theorem test_illegal_first_byte : decode Config.default 0x32 0 = .bad (.illegalFirst 0x32) := by decide
theorem test_malformed_halt : decode Config.default 0x37 0x00 = .bad (.malformedSecond 0x37 0x00) := by decide
theorem test_malformed_immediate : decode Config.default 0x40 0x16 = .bad (.malformedSecond 0x40 0x16) := by decide
theorem test_unsourced_refused : decode sourcedOnly 0x48 0 = .bad (.unsourced .soundOne) := by decide
theorem test_truncated_stream : decodeStream Config.default [0xE0] = none := by decide

/-- The table's numbers, the first byte of a two-byte instruction in bits 15 to 8 (R46, D32). -/
theorem test_table_words :
    decodeTableWord 8 0x36 = some .daa ∧ decodeTableWord 16 0x373E = some .halt ∧
    decodeTableWord 16 0xEABC = some (.jmp 0xABC) ∧ decodeTableWord 8 0x32 = none := by decide

/-! One step of each instruction. -/

/-- A small state: R1R0 = 9CH with 8 there, R3R2 = FFH with 4 there, R4 = 2. -/
def base : State := { State.reset with
  r0 := 0xC, r1 := 9, r2 := 0xF, r3 := 0xF, r4 := 2, ram := [(0x9C, 8), (0xFF, 4)], pc := 0x012, timer := 0xA5 }

/-- The next state of an instruction. -/
def after (i : Instr) (s : State) : Option State := nextOf (exec i s)

/-- ACC and CF after an instruction. -/
def accCf (i : Instr) (s : State) : Option (Nibble × Bool) := (after i s).map fun t => (t.acc, t.cf)

/-- The nibbles at the addresses of the two pairs of `base`. -/
def cells (i : Instr) (s : State) : Option (Nibble × Nibble) := (after i s).map fun t => (t.load 0x9C, t.load 0xFF)

/-- The five working registers after an instruction. -/
def regs (i : Instr) (s : State) : Option (List Nibble) := (after i s).map fun t => [t.r0, t.r1, t.r2, t.r3, t.r4]

/-- PC after an instruction; `s.pc` is the address after it. -/
def pcOf (i : Instr) (s : State) : Option CodeAddr := (after i s).map State.pc

theorem test_add : accCf .addAM10 { base with acc := 9 } = some (1, true) := by decide
theorem test_add_ignores_carry : accCf .addAM10 { base with acc := 7, cf := true } = some (0xF, false) := by decide
theorem test_adc : accCf .adcAM10 { base with acc := 7, cf := true } = some (0, true) := by decide
theorem test_adc_carry_from_full : accCf .adcAM10 { base with acc := 0xF, cf := true, ram := [(0x9C, 0xF)] } = some (0xF, true) := by decide
theorem test_sub : accCf .subAM10 { base with acc := 7 } = some (0xF, false) := by decide
theorem test_sub_no_borrow : accCf .subAM10 { base with acc := 8 } = some (0, true) := by decide
theorem test_sbc : accCf .sbcAM10 { base with acc := 8, cf := false } = some (0xF, false) := by decide
theorem test_sbc_no_borrow : accCf .sbcAM10 { base with acc := 0xF, cf := false, ram := [] } = some (0xE, true) := by decide
theorem test_add_imm : accCf (.addAImm 6) { base with acc := 0xC } = some (2, true) := by decide
theorem test_sub_imm : accCf (.subAImm 0xA) { base with acc := 3 } = some (9, false) := by decide
theorem test_daa : accCf .daa { base with acc := 0xA } = some (0, true) := by decide
theorem test_daa_with_carry : accCf .daa { base with acc := 9, cf := true } = some (0xF, true) := by decide
theorem test_and : accCf .andAM10 { base with acc := 0b1100, cf := true, ram := [(0x9C, 0b1010)] } = some (0b1000, true) := by decide
theorem test_or : accCf .orAM10 { base with acc := 0b1100, cf := true, ram := [(0x9C, 0b1010)] } = some (0b1110, true) := by decide
theorem test_xor : accCf .xorAM10 { base with acc := 0b1100, cf := true, ram := [(0x9C, 0b1010)] } = some (0b0110, true) := by decide
theorem test_and_memory : cells .andM10A { base with acc := 0b1100, ram := [(0x9C, 0b1010)] } = some (0b1000, 0) := by decide
theorem test_or_memory : cells .orM10A { base with acc := 0b1100, ram := [(0x9C, 0b1010)] } = some (0b1110, 0) := by decide
theorem test_xor_memory : cells .xorM10A { base with acc := 0b1100, ram := [(0x9C, 0b1010)] } = some (0b0110, 0) := by decide
theorem test_and_imm : accCf (.andAImm 3) { base with acc := 0b1110 } = some (0b0010, false) := by decide
theorem test_or_imm : accCf (.orAImm 1) { base with acc := 0b1000 } = some (0b1001, false) := by decide
theorem test_xor_imm : accCf (.xorAImm 5) { base with acc := 0b0101, cf := true } = some (0, true) := by decide
theorem test_inc_acc : accCf .incA { base with acc := 0xF } = some (0, false) := by decide
theorem test_dec_acc : accCf .decA { base with acc := 0, cf := true } = some (0xF, true) := by decide
theorem test_inc_r0 : regs .incR0 { base with r0 := 0xF } = some [0, 9, 0xF, 0xF, 2] := by decide
theorem test_dec_r0 : regs .decR0 base = some [0xB, 9, 0xF, 0xF, 2] := by decide
theorem test_inc_r1 : regs .incR1 base = some [0xC, 0xA, 0xF, 0xF, 2] := by decide
theorem test_dec_r1 : regs .decR1 base = some [0xC, 8, 0xF, 0xF, 2] := by decide
theorem test_inc_r2 : regs .incR2 base = some [0xC, 9, 0, 0xF, 2] := by decide
theorem test_dec_r2 : regs .decR2 { base with r2 := 0 } = some [0xC, 9, 0xF, 0xF, 2] := by decide
theorem test_inc_r3 : regs .incR3 { base with r3 := 7 } = some [0xC, 9, 0xF, 8, 2] := by decide
theorem test_dec_r3 : regs .decR3 base = some [0xC, 9, 0xF, 0xE, 2] := by decide
theorem test_inc_r4 : regs .incR4 base = some [0xC, 9, 0xF, 0xF, 3] := by decide
theorem test_dec_r4 : regs .decR4 { base with r4 := 1 } = some [0xC, 9, 0xF, 0xF, 0] := by decide
theorem test_inc_memory10 : cells .incM10 { base with ram := [(0x9C, 0xF), (0xFF, 4)] } = some (0, 4) := by decide
theorem test_dec_memory10 : cells .decM10 { base with ram := [(0xFF, 4)] } = some (0xF, 4) := by decide
theorem test_inc_memory32 : cells .incM32 base = some (8, 5) := by decide
theorem test_dec_memory32 : cells .decM32 base = some (8, 3) := by decide
theorem test_move_acc_r0 : accCf .movAR0 { base with acc := 1 } = some (0xC, false) := by decide
theorem test_move_r0_acc : regs .movR0A { base with acc := 6 } = some [6, 9, 0xF, 0xF, 2] := by decide
theorem test_move_acc_r1 : accCf .movAR1 { base with acc := 1 } = some (9, false) := by decide
theorem test_move_r1_acc : regs .movR1A { base with acc := 6 } = some [0xC, 6, 0xF, 0xF, 2] := by decide
theorem test_move_acc_r2 : accCf .movAR2 { base with acc := 1 } = some (0xF, false) := by decide
theorem test_move_r2_acc : regs .movR2A { base with acc := 6 } = some [0xC, 9, 6, 0xF, 2] := by decide
theorem test_move_acc_r3 : accCf .movAR3 { base with r3 := 9 } = some (9, false) := by decide
theorem test_move_r3_acc : regs .movR3A { base with acc := 6 } = some [0xC, 9, 0xF, 6, 2] := by decide
theorem test_move_acc_r4 : accCf .movAR4 { base with acc := 1 } = some (2, false) := by decide
theorem test_move_r4_acc : regs .movR4A { base with acc := 6 } = some [0xC, 9, 0xF, 0xF, 6] := by decide
theorem test_load10 : accCf .movAM10 { base with ram := [(0x9C, 3)] } = some (3, false) := by decide
theorem test_load32 : accCf .movAM32 { base with acc := 1 } = some (4, false) := by decide
theorem test_store10 : (after .movM10A { base with r0 := 0, r1 := 0, acc := 0xA }).map (·.ram) = some [(0x00, 0xA), (0x9C, 8), (0xFF, 4)] := by decide
theorem test_store32 : (after .movM32A { base with r3 := 9, r2 := 0xB, acc := 7 }).map (·.ram) = some [(0x9B, 7), (0x9C, 8), (0xFF, 4)] := by decide
theorem test_load_imm : accCf (.movAImm 0xC) base = some (0xC, false) := by decide
theorem test_load_r4_imm : regs (.movR4Imm 0xB) base = some [0xC, 9, 0xF, 0xF, 0xB] := by decide
theorem test_load_pair10_imm : regs (.movR1R0Imm 0x3A) base = some [0xA, 3, 0xF, 0xF, 2] := by decide
theorem test_load_pair32_imm : regs (.movR3R2Imm 0x3A) base = some [0xC, 9, 0xA, 3, 2] := by decide
theorem test_rl : accCf .rlA { base with acc := 0b1001 } = some (0b0011, true) := by decide
theorem test_rl_carry_in : accCf .rlA { base with acc := 0b0110, cf := true } = some (0b1100, false) := by decide
theorem test_rlc : accCf .rlcA { base with acc := 0b1001 } = some (0b0010, true) := by decide
theorem test_rlc_carry_in : accCf .rlcA { base with acc := 0b0110, cf := true } = some (0b1101, false) := by decide
theorem test_rr : accCf .rrA { base with acc := 0b1001 } = some (0b1100, true) := by decide
theorem test_rr_carry_in : accCf .rrA { base with acc := 0b0110, cf := true } = some (0b0011, false) := by decide
theorem test_rrc : accCf .rrcA { base with acc := 0b1001 } = some (0b0100, true) := by decide
theorem test_rrc_carry_in : accCf .rrcA { base with acc := 0b0110, cf := true } = some (0b1011, false) := by decide

/-- PS and PP driven as `PS3..PS0 = 1010` and `PP3..PP0 = 0111`. -/
def driven : State := { base with ps := ⟨.low, .high, .low, .high⟩, pp := ⟨.high, .high, .high, .low⟩ }

theorem test_in_ps : (after .inAPs driven).map (·.acc) = some 0b1010 := by decide
theorem test_in_pp : (after .inAPp driven).map (·.acc) = some 0b0111 := by decide
theorem test_in_pulled_high : (after .inAPs base).map (·.acc) = some 0b1111 := by decide
theorem test_out : (after .outPaA { base with acc := 0b0100 }).map (fun t => (t.pa, t.bank, t.lcdOn, t.pa1Level, t.pa0Level)) =
    some (0b0100, false, true, .low, .low) := by decide
theorem test_jmp : pcOf (.jmp 0xABC) base = some 0xABC := by decide
theorem test_jc : pcOf (.jc 0x345) { base with cf := true, pc := 0xA00 } = some 0xB45 := by decide
theorem test_jc_own : pcOf (.jc 0x345) { base with cf := true, pc := 0x800, config := { Config.default with jumpPc11 := .own } } = some 0x345 := by decide
theorem test_jnc : pcOf (.jnc 0x400) base = some 0x400 := by decide
theorem test_jnc_not_taken : pcOf (.jnc 0x400) { base with cf := true } = some 0x012 := by decide
theorem test_jtmr : (after (.jtmr 0x100) { base with tf := true, pc := 0x022 }).map (fun t => (t.pc, t.tf)) = some (0x100, false) := by decide
theorem test_jtmr_not_taken : (after (.jtmr 0x100) { base with pc := 0x022 }).map (fun t => (t.pc, t.tf)) = some (0x022, false) := by decide
theorem test_ja0 : pcOf (.ja0 0x010) { base with acc := 0b0001, pc := 0x002 } = some 0x010 := by decide
theorem test_ja1 : pcOf (.ja1 0x010) { base with acc := 0b0001, pc := 0x002 } = some 0x002 := by decide
theorem test_ja1_taken : pcOf (.ja1 0x010) { base with acc := 0b0010, pc := 0x002 } = some 0x010 := by decide
theorem test_ja2 : pcOf (.ja2 0x7FF) { base with acc := 0b0100, pc := 0x002 } = some 0x7FF := by decide
theorem test_ja3 : pcOf (.ja3 0x000) { base with acc := 0b1000, pc := 0x902 } = some 0x800 := by decide
theorem test_jz_acc : pcOf (.jzA 0x000) { base with acc := 0, pc := 0x032 } = some 0x000 := by decide
theorem test_jz_acc_not_taken : pcOf (.jzA 0x000) { base with acc := 1, pc := 0x032 } = some 0x032 := by decide
theorem test_jnz_acc : pcOf (.jnzA 0x123) { base with acc := 8, pc := 0x042 } = some 0x123 := by decide
theorem test_jnz_r0 : pcOf (.jnzR0 0x005) { base with r0 := 1, pc := 0x00B } = some 0x005 := by decide
theorem test_jnz_r1_not_taken : pcOf (.jnzR1 0x005) { base with r1 := 0, pc := 0x00B } = some 0x00B := by decide
theorem test_jnz_r4 : pcOf (.jnzR4 0x005) { base with r0 := 0, r1 := 0, r4 := 2, pc := 0x00B } = some 0x005 := by decide
theorem test_call : (after (.call 0x123) { base with pc := 0x016 }).map (fun t => (t.stackPc, t.sub, t.pc)) = some (0x016, true, 0x123) := by decide
theorem test_call_in_subroutine : exec (.call 0x123) { base with sub := true } = .fault .callWhileStackInUse := rfl
theorem test_ret : (after .ret { base with sub := true, stackPc := 0x016, cf := true }).map (fun t => (t.pc, t.sub, t.cf)) = some (0x016, false, true) := by decide
theorem test_ret_outside : exec .ret base = .fault .returnWithEmptyStack := rfl
theorem test_reti : (after .reti { base with sub := true, stackPc := 0x013, stackCf := true }).map (fun t => (t.pc, t.sub, t.cf)) = some (0x013, false, true) := by decide
theorem test_reti_outside : exec .reti base = .fault .returnWithEmptyStack := rfl
theorem test_clc : accCf .clc { base with cf := true } = some (0, false) := by decide
theorem test_stc : accCf .stc base = some (0, true) := by decide
theorem test_ei : (after .ei base).map (·.ie) = some true := by decide
theorem test_di : (after .di { base with ie := true }).map (·.ie) = some false := by decide
theorem test_nop : exec .nop base = .next base := rfl
theorem test_timer_imm : (after (.timerImm 0x3C) { base with tf := true }).map (fun t => (t.timer, t.tf)) = some (0x3C, true) := by decide
theorem test_timer_on : (after .timerOn base).map (·.ton) = some true := by decide
theorem test_timer_off : (after .timerOff { base with ton := true, timer := 0x7F, tf := true }).map (fun t => (t.ton, t.timer, t.tf)) = some (false, 0x7F, true) := by decide
theorem test_read_tmrl : accCf .movATmrl base = some (5, false) := by decide
theorem test_read_tmrh : accCf .movATmrh base = some (0xA, false) := by decide
theorem test_write_tmrl : (after .movTmrlA { base with acc := 0 }).map (·.timer) = some 0xA0 := by decide
theorem test_write_tmrh : (after .movTmrhA { base with acc := 0xF }).map (·.timer) = some 0xF5 := by decide
theorem test_read_r4 : (after .readR4A { base with pc := 0x311, acc := 2, ram := [(0x9C, 5)], rom := [(0x1325, 0xB4)] }).map (fun t => (t.r4, t.acc)) =
    some (0xB, 4) := by decide
theorem test_read_r4_page_margin : (after .readR4A { base with pc := 0x400, acc := 2, ram := [(0x9C, 5)], rom := [(0x1425, 0x6E)] }).map (fun t => (t.r4, t.acc)) =
    some (6, 0xE) := by decide
theorem test_read_mr0 : (after .readMr0A { base with pc := 0x121, pa := 0b0011, acc := 0, r4 := 0xF, rom := [(0x010F, 0x5A)] }).map
    (fun t => (t.load 0x9C, t.acc)) = some (5, 0xA) := by decide
theorem test_readf_r4 : (after .readfR4A { base with acc := 2, ram := [(0x9C, 1)], rom := [(0x1F21, 0xA7)] }).map (fun t => (t.r4, t.acc)) = some (0xA, 7) := by decide
theorem test_readf_mr0 : (after .readfMr0A { base with pa := 0b0011, acc := 0xF, r4 := 0xF, rom := [(0x0FFF, 0x12)] }).map
    (fun t => (t.load 0x9C, t.acc)) = some (1, 2) := by decide
theorem test_sound_imm : (after (.soundImm 12) base).map (fun t => (t.sndCh, t.sndOn)) = some (0xC, true) := by decide
theorem test_sound_acc : (after .soundA { base with acc := 3 }).map (fun t => (t.sndCh, t.sndOn)) = some (3, true) := by decide
theorem test_sound_one : (after .soundOne { base with sndLoop := true }).map (·.sndLoop) = some false := by decide
theorem test_sound_loop : (after .soundLoop base).map (·.sndLoop) = some true := by decide
theorem test_sound_off : (after .soundOff { base with sndOn := true }).map (·.sndOn) = some false := by decide
theorem test_halt : (after .halt base).map (fun t => (t.halted, t.pc)) = some (true, 0x012) := by decide

/-! Steps of the machine. -/

/-- What a step from `s` answers, seen through `f`. -/
def afterStep {α : Type} (s : State) (f : State → α) : Option α := (nextOf (step s)).map f

theorem test_step_runs_one_byte : afterStep (State.reset.withFetchWord 8 0x31) (fun t => (t.acc, t.pc)) = some (1, 0x001) := by
  decide
theorem test_step_runs_two_bytes :
    afterStep (State.reset.withFetchWord 16 0xEABC) (fun t => t.pc) = some 0xABC := by decide
theorem test_step_halts : afterStep (State.reset.withFetchWord 16 0x373E) (fun t => (t.halted, t.pc)) = some (true, 0x002) := by
  decide
theorem test_step_refuses : step (State.reset.withFetchWord 8 0x35) = .refused (.illegalFirstByte 0x35) := rfl
/-- NOP at the last byte of a bank (R16). -/
theorem test_pc_wraps_in_bank :
    afterStep ({ State.reset with pc := 0xFFF }.withFetchWord 8 0x3E) (fun t => (t.pc, t.bank)) = some (0x000, true) := by
  decide
/-- After OUT PA,A with bank 0 in ACC the next fetch is from bank 0 (R18, P6). -/
theorem test_bank_switch :
    (runFor 2 { { State.reset with acc := 0b0011, rom := [(1, 0x7F)] }.withFetchWord 8 0x30 with
      schedule := [.cpu false, .cpu false] }).map (fun t => (t.acc, t.pc)) =
      some (0xF, 0x002) := by decide
theorem test_rtc_before_timer :
    afterStep { base with ie := true, rtcl := true, tf := true, pc := 0x050, schedule := [.cpu false] }
      (fun t => (t.pc, t.stackPc, t.rtcl, t.tf, t.sub)) = some (0x008, 0x050, false, true, true) := by decide
theorem test_timer_entry :
    afterStep { base with ie := true, tf := true, pc := 0x200, schedule := [.cpu false] }
      (fun t => (t.pc, t.stackPc, t.stackCf, t.tf)) = some (0x004, 0x200, false, false) := by decide
theorem test_count_step :
    afterStep { base with ton := true, timer := 0xFE, schedule := [.timerTick] } (fun t => (t.timer, t.tf)) =
      some (0xFF, false) := by decide
theorem test_count_overflow :
    afterStep { base with ton := true, timer := 0xFF, schedule := [.timerTick] } (fun t => (t.timer, t.tf)) =
      some (0x00, true) := by decide
theorem test_reset_pin :
    afterStep { base with ie := true, schedule := [.resPin true] } (fun t => (t.pc, t.pa, t.ie, t.resetHeld)) =
      some (0x000, 0b1011, false, true) := by decide
/-- The RTC is enabled always (R240). -/
theorem test_rtc_in_reset :
    afterStep { State.reset with resetHeld := true, schedule := [.rtcEvent] } (fun t => (t.rtcl, t.resetHeld)) =
      some (true, true) := by decide


/-! Witnesses: for every obligation with hypotheses, concrete values that meet them, at the boundaries of its clauses. -/

/-- At reset, about to run INC A. -/
def atInc : State := State.reset.withFetchWord 8 0x31

/-- `atInc` with interrupts enabled and both pending. -/
def atInterrupt : State := { atInc with ie := true, rtcl := true, tf := true }

/-- Halted with interrupts enabled, an RTC event to come. -/
def sleeping : State := { base with halted := true, ie := true, schedule := [.rtcEvent, .cpu false] }

theorem witness_DecodeStreamInvertsEncode :
    Instr.subAM10.wellFormed Config.default = true ∧ (Instr.jc 0x7FF).wellFormed sourcedOnly = true := by decide

theorem witness_EncodeInvertsDecode :
    decode Config.default 0x37 0x3E = .ok .halt ∧ decode Config.default 0x36 0xFF = .ok .daa := by decide

/-- The length of what two bytes decode to. -/
def lengthAt (b0 b1 : Byte) : Option Nat :=
  match decode Config.default b0 b1 with
  | .ok i => some i.length
  | .bad _ => none

/-- Both ends of each range of two-byte first bytes, and one-byte ones beside them. -/
theorem witness_FirstByteDecidesLength :
    lengthAt 0x37 0x3E = some 2 ∧
    [0x40, 0x47, 0x50, 0x6F, 0x80, 0xFF].map (fun b0 => lengthAt b0 0x0E) = List.replicate 6 (some 2) ∧
    [0x36, 0x38, 0x3F, 0x48, 0x4F, 0x70, 0x7F].map (fun b0 => lengthAt b0 0x0E) = List.replicate 7 (some 1) := by decide

/-- Both illegal first bytes, lost encodings (one of them also malformed), the ends of the malformed ranges, and
`TIMER XXH`, whose second byte is never malformed. -/
theorem witness_DecodeRefusesExactlyUndefinedBytes :
    decode sourcedOnly 0x32 0 = .bad (.illegalFirst 0x32) ∧ decode Config.default 0x35 0 = .bad (.illegalFirst 0x35) ∧
    decode sourcedOnly 0x0B 0 = .bad (.unsourced .subAM10) ∧ decode sourcedOnly 0x4A 0 = .bad (.unsourced .soundOff) ∧
    (sourcedOnly.admitUnsourced = false ∧ ∃ i, i.unsourced = true ∧ decode sourcedOnly 0x41 0x10 = .bad (.unsourced i)) ∧
    decode Config.default 0x40 0x10 = .bad (.malformedSecond 0x40 0x10) ∧
    decode Config.default 0x46 0xFF = .bad (.malformedSecond 0x46 0xFF) ∧
    decode Config.default 0x50 0x10 = .bad (.malformedSecond 0x50 0x10) ∧
    decode Config.default 0x6F 0x10 = .bad (.malformedSecond 0x6F 0x10) ∧
    decode Config.default 0x37 0x3F = .bad (.malformedSecond 0x37 0x3F) ∧
    decode Config.default 0x47 0xFF = .ok (.timerImm 0xFF) ∧ decode Config.default 0x4F 0x10 = .ok .readfMr0A ∧
    decode Config.default 0x6F 0x0F = .ok (.movR3R2Imm 0xFF) :=
  ⟨by decide, by decide, by decide, by decide, ⟨rfl, .subAImm 0, rfl, by decide⟩, by decide, by decide, by decide, by decide,
    by decide, by decide, by decide, by decide⟩

/-- No interrupt in the way; an interrupt put off; and bytes that do not decode. -/
theorem witness_StepRunsDecodedInstruction :
    (atInc.schedule = .cpu false :: [] ∧ atInc.resetHeld = false ∧ atInc.halted = false ∧
      (atInc.ie && !atInc.sub && (atInc.rtcl || atInc.tf)) = false ∧
      decode atInc.config (atInc.rom.read (bankedKey atInc atInc.pc.toNat))
        (atInc.rom.read (bankedKey atInc (atInc.pc.toNat + 1))) = .ok .incA) ∧
    ({ atInterrupt with schedule := [.cpu true], config := { Config.default with intLatency := .any } }.schedule = .cpu true :: [] ∧
      ({ Config.default with intLatency := .any } : Config).intLatency = .any) ∧
    decode Config.default ((State.reset.withFetchWord 8 0x32).rom.read 0x1000) 0 = .bad (.illegalFirst 0x32) :=
  ⟨⟨rfl, by decide, by decide, by decide, by decide⟩, ⟨rfl, rfl⟩, by decide⟩

/-- The RTC entry and the timer entry. -/
theorem witness_StepTakesInterrupt :
    (atInterrupt.schedule = .cpu false :: [] ∧ atInterrupt.resetHeld = false ∧ atInterrupt.halted = false ∧ atInterrupt.ie = true ∧
      atInterrupt.sub = false ∧ atInterrupt.rtcl = true) ∧
    ({ atInterrupt with rtcl := false, schedule := [.cpu true] }.schedule = .cpu true :: [] ∧ atInterrupt.tf = true ∧
      atInterrupt.config.intLatency = .zero) :=
  ⟨⟨rfl, by decide, by decide, rfl, by decide, rfl⟩, ⟨rfl, rfl, by decide⟩⟩

theorem witness_WaitingCpuChangesNothing :
    { base with halted := true, schedule := [.cpu false] }.schedule = .cpu false :: [] ∧
    { base with resetHeld := true, schedule := [.cpu true] }.schedule = .cpu true :: [] := ⟨rfl, rfl⟩

/-- A running chip, and one held in reset whose pins move. -/
theorem witness_EveryStepKeepsInvariant :
    (atInc.Inv ∧ afterStep atInc (·.acc) = some 1) ∧
    ({ State.reset with resetHeld := true, schedule := [.lcdScan] }.Inv ∧
      afterStep { State.reset with resetHeld := true, schedule := [.lcdScan] } (·.resetHeld) = some true) := by decide

theorem witness_StepsKeepProgramMemoryAndConfig : afterStep atInc (fun t => (t.rom, t.acc)) = some (atInc.rom, 1) := by decide

/-- All four pins of a port driven low. -/
def quietPins : Pins := ⟨.low, .low, .low, .low⟩

/-- OUT PA,A run by the CPU; another instruction; the RES pin; and a move of the pins while RES holds the chip. -/
theorem witness_PortLatchChangesOnlyByOutOrReset :
    CpuRuns (State.reset.withFetchWord 8 0x30) .outPaA ∧
    afterStep (State.reset.withFetchWord 8 0x30) (·.pa) = some 0 ∧ afterStep atInc (·.pa) = some 0b1011 ∧
    afterStep { base with pa := 0, schedule := [.resPin true] } (fun t => (t.pa, t.resetHeld)) = some (0b1011, true) ∧
    afterStep { State.reset with resetHeld := true, schedule := [.pins quietPins quietPins] } (·.pa) = some 0b1011 :=
  ⟨⟨false, [], rfl, by decide, by decide, .inl (by decide), by decide⟩, by decide, by decide, by decide, by decide⟩

theorem witness_CarryFlowsOnlyThroughListedInstructions :
    writesCarry .incA = false ∧ accCf .incA { base with cf := true } = some (1, true) ∧ readsCarry .addAM10 = false ∧
    readsCarry .incA = false := by decide

theorem witness_ControlBitsHaveOnlyTheirWriters : exec .incA base = .next (base.setAcc 1) := rfl

/-- An instruction that stores, at an address it does not store to; and one that stores nothing. -/
theorem witness_InstructionStoresAtMostOneLocation :
    storeAddr .movM10A base ≠ some 0xFF ∧ cells .movM10A { base with acc := 3 } = some (3, 4) ∧
    storeAddr .incA base ≠ some 0x9C ∧ (after .incA base).isSome = true := by decide

theorem witness_ExecCompletesButForStackMisuse :
    ({ base with sub := true }.sub = true ∧ base.sub = false) ∧ (after (.call 0x123) base).isSome = true ∧
    (after .ret { base with sub := true }).isSome = true := by decide

theorem witness_StackKeptWhileInUse :
    { atInterrupt with sub := true }.sub = true ∧
    afterStep { atInterrupt with sub := true } (fun t => (t.acc, t.resetHeld)) = some (1, false) := by decide

/-- The RTC vector of bank 1 holds INC R2. -/
def inRoutine : State := { atInterrupt with rom := [(0x1008, 0x14)] }

/-- What a test sees of a state it names. -/
theorem seen {o : Option State} {v : State} (p : State → Bool) (h : o = some v) (e : o.map p = some true) : p v = true := by
  subst h
  simpa using e

/-- A routine of one instruction. -/
theorem witness_RoutineReturnsToInterruptedProgram :
    inRoutine.interruptReady = true ∧ (runFor 1 inRoutine.takeInterrupt).isSome = true ∧
    ∀ k v, k ≤ 1 → runFor k inRoutine.takeInterrupt = some v → v.sub = true ∧ v.resetHeld = false := by
  refine ⟨by decide, by decide, fun k v hk h => ?_⟩
  have both : ∀ k, k ≤ 1 →
      (runFor k inRoutine.takeInterrupt).map (fun v => v.sub && !v.resetHeld) = some true := by decide
  simpa using seen _ h (both k hk)

/-- Counting, overflowing, and not counting. -/
theorem witness_TimerCountStep :
    (([{ base with ton := true, timer := 0xFE, schedule := [.timerTick] }, { base with ton := true, timer := 0xFF, schedule := [.timerTick] },
      { base with ton := true, halted := true, timer := 0xFF, schedule := [.timerTick] },
      { base with timer := 0xFF, schedule := [.timerTick] }] : List State).map fun s =>
        (s.resetHeld, afterStep s (fun t => (t.timer, t.tf)))) =
      [(false, some (0xFF, false)), (false, some (0x00, true)), (false, some (0xFF, false)), (false, some (0xFF, false))] := by
  decide

/-- A timer that counts, with `k` ticks to come. -/
def ticking (timer : Byte) (k : Nat) : State := { base with ton := true, timer := timer, schedule := List.replicate k .timerTick }

/-- One tick from FFH, and 256 ticks from 00H. -/
theorem witness_PresetTimerOverflowsAfterItsTicks :
    ((ticking 0xFF 1).ton = true ∧ (ticking 0xFF 1).halted = false ∧ (ticking 0xFF 1).resetHeld = false ∧
      (ticking 0xFF 1).tf = false ∧ (ticking 0xFF 1).timer.toNat = (256 - 1) % 256 ∧
      (runFor 1 (ticking 0xFF 1)).map (fun t => (t.timer, t.tf)) = some (0x00, true)) ∧
    ((ticking 0x00 256).timer.toNat = (256 - 256) % 256 ∧
      (ticking 0x00 256).schedule = List.replicate 256 .timerTick) :=
  ⟨by decide, by decide, rfl⟩

theorem witness_RtcEventLatchesAndWakes :
    sleeping.resetHeld = false ∧ afterStep sleeping (fun t => (t.rtcl, t.halted)) = some (true, false) := by decide

/-- A halted chip whose pins were `ps` and `pp` and become `ps'` and `pp'`: does it stay halted? -/
def staysHalted (ps pp ps' pp' : Pins) : Option Bool :=
  afterStep { base with halted := true, ps := ps, pp := pp, schedule := [.pins ps' pp'] } (·.halted)

/-- The first pin of PS and the last of PP, driven high or unconnected with the pull-high resistor, falling to low. -/
theorem witness_PinsWakeByFallingEdge :
    base.config.wakePs.getLsbD 0 = true ∧ base.config.wakePp.getLsbD 3 = true ∧
    Pins.IsHigh { quietPins with pin0 := .unconnected } base.config.pullHighPs 0 ∧ quietPins.IsLow 0 ∧
    staysHalted { quietPins with pin0 := .high } quietPins quietPins quietPins = some false ∧
    staysHalted quietPins { quietPins with pin3 := .high } quietPins quietPins = some false ∧
    staysHalted { quietPins with pin0 := .unconnected } quietPins quietPins quietPins = some false ∧
    staysHalted quietPins { quietPins with pin3 := .unconnected } quietPins quietPins = some false :=
  ⟨by decide, by decide, .inr ⟨rfl, by decide⟩, rfl, by decide, by decide, by decide, by decide⟩

/-- No edge: a pin rises, is let go from low, or goes from driven high to its pull-high resistor. -/
theorem witness_PinsWakeByFallingEdge_none :
    staysHalted quietPins quietPins { quietPins with pin0 := .high } quietPins = some true ∧
    staysHalted quietPins quietPins quietPins { quietPins with pin3 := .unconnected } = some true ∧
    staysHalted { quietPins with pin0 := .high } quietPins { quietPins with pin0 := .unconnected } quietPins = some true := by
  decide

/-- SONE mode, SLOOP mode, no sound, and HALT mode. -/
theorem witness_SoundEndFollowsMode :
    (([{ base with sndOn := true, schedule := [.soundEnd] }, { base with sndOn := true, sndLoop := true, schedule := [.soundEnd] },
      { base with sndLoop := true, schedule := [.soundEnd] }, { base with sndOn := true, halted := true, schedule := [.soundEnd] }] :
        List State).map fun s => (s.resetHeld, afterStep s (·.sndOn))) =
      [(false, some false), (false, some true), (false, some false), (false, some true)] := by decide

/-- A chip on which the CPU may put an interrupt off. -/
def lazyChip : Config := { Config.default with intLatency := .any }

/-- Interrupts enabled; disabled; held by SUB; a move that would put it off under `INT_LATENCY = 0`; and one that does. -/
theorem witness_RtcWakeEntersOrContinues :
    (sleeping.halted = true ∧ sleeping.resetHeld = false ∧ sleeping.schedule = .rtcEvent :: .cpu false :: [] ∧
      sleeping.ie = true ∧ sleeping.sub = false) ∧
    (runFor 2 sleeping).map (fun t => (t.pc, t.stackPc)) = some (0x008, 0x012) ∧
    (runFor 2 { sleeping with ie := false, rom := [(0x1012, 0x31)] }).map (fun t => (t.pc, t.acc, t.rtcl)) =
      some (0x013, 1, true) ∧
    (runFor 2 { sleeping with sub := true, rom := [(0x1012, 0x31)] }).map (fun t => (t.pc, t.rtcl)) = some (0x013, true) ∧
    (runFor 2 { sleeping with schedule := [.rtcEvent, .cpu true] }).map (fun t => t.pc) = some 0x008 ∧
    (runFor 2 { sleeping with schedule := [.rtcEvent, .cpu true], config := lazyChip, rom := [(0x1012, 0x31)] }).map
      (fun t => (t.pc, t.rtcl)) = some (0x013, true) :=
  ⟨⟨by decide, by decide, rfl, by decide, by decide⟩, by decide, by decide, by decide, by decide, by decide⟩

/-- The pin pulled low; a tick of the timer and an RTC event while it holds the chip; and the pin let go. -/
theorem witness_ResetPinGivesResetState :
    { base with schedule := [.resPin true] }.schedule = .resPin true :: [] ∧
    ({ State.reset with resetHeld := true }.resetHeld = true ∧ { State.reset with resetHeld := true }.atReset = true ∧
      Move.timerTick ≠ .rtcEvent ∧ (∀ ps pp, Move.timerTick ≠ .pins ps pp) ∧ ∀ low, Move.timerTick ≠ .resPin low) ∧
    { base with schedule := [.resPin false] }.schedule = .resPin false :: [] ∧ State.reset.atReset = true :=
  ⟨rfl, ⟨rfl, by decide, by decide, (by simp), by simp⟩, rfl, by decide⟩

/-- A step from a state with no program byte listed, where PC reads RR A (00H), answers such a state. -/
theorem blank_program_steps {s : State} (h : s.rom = []) : ∃ t, step s = .next t ∧ t.rom = [] := by
  unfold step
  split
  · exact ⟨_, rfl, h⟩
  · rename_i m rest _
    generalize hu : ({ s with schedule := rest } : State) = u
    have hr : u.rom = [] := by rw [← hu]; exact h
    clear hu h
    cases m with
    | cpu d =>
      have hf : u.fetched = .ok .rrA := by
        have hb : u.firstByte = 0x00 := by
          simp only [State.firstByte, State.romRead, hr]
          rfl
        simp only [State.fetched, hb]
        rfl
      simp only [runMove, cpuStep, runInstruction, hf]
      split
      · exact ⟨_, rfl, hr⟩
      · split
        · refine ⟨_, rfl, ?_⟩
          simp only [State.takeInterrupt]
          split <;> exact hr
        · exact ⟨_, rfl, hr⟩
    | timerTick =>
      refine ⟨_, rfl, ?_⟩
      simp only [State.deviceMove, State.timerTick]
      split <;> (try split) <;> exact hr
    | soundEnd =>
      refine ⟨_, rfl, ?_⟩
      simp only [State.deviceMove, State.soundEnd]
      split <;> exact hr
    | resPin low => cases low <;> exact ⟨_, rfl, hr⟩
    | rtcEvent => exact ⟨_, rfl, hr⟩
    | lcdScan => exact ⟨_, rfl, hr⟩
    | pins ps pp => exact ⟨_, rfl, hr⟩

/-- The empty schedule of reset, and a run that never stops: RR A for ever. -/
theorem witness_AgentsMoveUnderWeakFairness :
    State.reset.schedule = [] ∧ ∀ n, ∃ u, runFor n State.reset = some u := by
  have runs : ∀ n s, s.rom = [] → ∃ u, runFor n s = some u := by
    intro n
    induction n with
    | zero => exact fun s _ => ⟨s, rfl⟩
    | succ n ih =>
      intro s h
      obtain ⟨t, ht, hr⟩ := blank_program_steps h
      obtain ⟨u, hu⟩ := ih t hr
      exact ⟨u, by simp [runFor, ht, nextOf, hu]⟩
  exact ⟨rfl, fun n => runs n _ rfl⟩

theorem witness_EqualReadsMeanEqualMemories :
    Memory.wf (w := 4) ramSize [(0x9C, 8), (0xFF, 4)] = true := by decide

/-- The last admitted and the first refused second byte of `IMM4`. -/
theorem witness_AdditionsWriteSumAndCarry :
    decode Config.default 0x40 0x0F = .ok (.addAImm 15) ∧ decode Config.default 0x40 0x10 = .bad (.malformedSecond 0x40 0x10) ∧
    16 ≤ (0x10#8).toNat ∧ accCf (.addAImm 15) { base with acc := 0 } = some (15, false) ∧
    accCf (.addAImm 15) { base with acc := 1 } = some (0, true) := by decide

theorem witness_SubtractionsWithoutBorrowInput :
    Config.default.admitUnsourced = true ∧ accCf (.subAImm 8) { base with acc := 8 } = some (0, true) ∧
    accCf (.subAImm 9) { base with acc := 8 } = some (15, false) := by decide

/-- ACC = 9 and ACC = 10 without carry. -/
theorem witness_DecimalAdjustAddsSix :
    accCf .daa { base with acc := 9 } = some (9, false) ∧ accCf .daa { base with acc := 10 } = some (0, true) := by decide

theorem witness_AndOrIntoAccumulator : 16 ≤ (0x10#8).toNat ∧ ¬16 ≤ (0x0F#8).toNat := by decide

theorem witness_ExclusiveOrForms : Config.default.admitUnsourced = true ∧ 16 ≤ (0x10#8).toNat := by decide

theorem witness_MovesOfNibbleImmediates :
    decode Config.default 0x46 0x0F = .ok (.movR4Imm 15) ∧ decode Config.default 0x46 0x10 = .bad (.malformedSecond 0x46 0x10) := by
  decide

theorem witness_MovesOfPairImmediates :
    Config.default.pairOrder = .lowFirst ∧ highFirst.pairOrder = .highFirst ∧
    decode Config.default 0x5C 0x0F = .ok (.movR1R0Imm 0xFC) ∧
    decode Config.default 0x5C 0x10 = .bad (.malformedSecond 0x5C 0x10) := by decide

/-- A low pin, a high pin and an unconnected pin with its pull-high. -/
theorem witness_InputPortsReachAccumulator :
    driven.ps.drive 0 = .low ∧ driven.ps.drive 3 = .high ∧ driven.pp.drive 3 = .low ∧ driven.pp.drive 0 = .high ∧
    base.ps.drive 3 = .unconnected ∧ base.config.pullHighPs.getLsbD 3 = true ∧ base.config.pullHighPp.getLsbD 0 = true := by
  decide

/-- Both latch bits low, both high, and both output stages. -/
theorem witness_OutputWritesLatchPinsLcdAndBank :
    (0b1000#4).getLsbD 0 = false ∧ (0b1000#4).getLsbD 1 = false ∧ (0b0011#4).getLsbD 0 = true ∧ (0b0011#4).getLsbD 1 = true ∧
    base.config.pa0Type = .cmos ∧ ({ Config.default with pa1Type := .openDrain } : Config).pa1Type = .openDrain := by decide

/-- Jumps taken and not taken, and both readings of bit 11. -/
theorem witness_FlagJumpsFollowTheirFlag :
    { base with cf := true }.cf = true ∧ base.cf = false ∧ { base with tf := true }.tf = true ∧ base.tf = false ∧
    base.config.jumpPc11 = .next ∧ ({ Config.default with jumpPc11 := .own } : Config).jumpPc11 = .own := by decide

theorem witness_AccumulatorJumpsTestAccumulator :
    base.acc.toNat = 0 ∧ (base.setAcc 1).acc.toNat ≠ 0 ∧ (base.setAcc 8).acc.getLsbD 3 = true ∧ base.acc.getLsbD 3 = false := by
  decide

theorem witness_RegisterJumpsTestRegister : (base.reg .r4).toNat ≠ 0 ∧ ¬(State.reset.reg .r4).toNat ≠ 0 := by decide

theorem witness_CallSavesReturnAddress : base.sub = false ∧ { base with sub := true }.sub = true := by decide

/-- A routine entered by an interrupt, and no routine. -/
theorem witness_ReturnsRestoreFromStack :
    atInterrupt.takeInterrupt.sub = true ∧ atInterrupt.takeInterrupt.stackByCall = false ∧ base.sub = false := by decide

theorem witness_InterruptEnableAndDisable :
    { base with tf := true }.sub = false ∧ { base with tf := true }.halted = false ∧ { base with tf := true }.tf = true := by decide

theorem witness_UnsourcedControlInstructions :
    Config.default.admitUnsourced = true ∧ 16 ≤ (0x10#8).toNat ∧ decode Config.default 0x45 0x0F = .ok (.soundImm 15) := by decide

theorem witness_HaltEntersPowerDown : (0x3F : Byte) ≠ 0x3E ∧ (0x3D : Byte) ≠ 0x3E := by decide

theorem witness_IncrementDecrementRegisters :
    (Reg.r0, Instr.incR0, Instr.decR0, 0x10#8, 0x11#8) ∈ [(Reg.r0, Instr.incR0, Instr.decR0, 0x10#8, 0x11#8)] ∧
    regs .decR4 { base with r4 := 0 } = some [0xC, 9, 0xF, 0xF, 0xF] := by decide

theorem witness_IncrementDecrementMemory :
    (Pair.p32, Instr.incM32, Instr.decM32, 0x0E#8, 0x0F#8) ∈ [(Pair.p32, Instr.incM32, Instr.decM32, 0x0E#8, 0x0F#8)] ∧
    cells .decM32 { base with ram := [] } = some (0, 0xF) := by decide

theorem witness_MovesBetweenAccAndRegisters :
    (Reg.r4, Instr.movAR4, Instr.movR4A, 0x29#8, 0x28#8) ∈ [(Reg.r4, Instr.movAR4, Instr.movR4A, 0x29#8, 0x28#8)] := by decide

theorem witness_MovesBetweenAccAndMemory :
    (Pair.p32, Instr.movAM32, Instr.movM32A, 0x06#8, 0x07#8) ∈ [(Pair.p32, Instr.movAM32, Instr.movM32A, 0x06#8, 0x07#8)] := by decide

/-- The highest bit that a rotate moves inside ACC. -/
theorem witness_RotatesMoveOneBit : 2 < 3 ∧ ¬3 < 3 := by decide

/-- Both output stages of both pins. -/
theorem witness_StateAfterReset :
    Config.default.pa0Type = .cmos ∧ Config.default.pa1Type = .cmos ∧
    ({ Config.default with pa0Type := .openDrain } : Config).pa0Type = .openDrain ∧
    ({ Config.default with pa1Type := .openDrain } : Config).pa1Type = .openDrain := by decide

/-- The LCD output on, with the first and the last address of the display area, and off. -/
theorem witness_DisplayDriverReadsDisplayArea :
    { base with schedule := [.lcdScan] }.schedule = .lcdScan :: [] ∧
    { base with pa := 0b1111 }.pa.getLsbD 2 = true ∧ base.pa.getLsbD 2 = false ∧
    0x9C ≤ (0x9C : DataAddr).toNat ∧ ¬0x9C ≤ (0x9B : DataAddr).toNat ∧
    { base with pa := 0b1111 }.lcdOutput.map (fun (l : List Nibble) => (l[0]?, l[99]?, l[100]?)) = some (some (8 : Nibble), some (4 : Nibble), none) ∧
    base.lcdOutput = none := by decide

end Sys2Proof.Tests
end

section
/-! PROOFS. The frames of a write of ACC and of a store, and the moves between ACC and data memory (spec/43_datamove.md
R132 to R135). -/

namespace Sys2Proof.Proofs

open Sys2Proof Sys2Proof.Machine

/-! Frames of the state's operations: what a write leaves unchanged. -/

/-- A write of ACC leaves every other piece of the state as it was (R10). -/
theorem frame_setAcc (s : State) (v : Nibble) : Frame [.acc] s (s.setAcc v) := by
  intro p hp
  cases p with
  | acc => exact absurd (List.mem_singleton_self _) hp
  | reg r => exact State.setAcc_reg s r v
  | _ => rfl

/-- A store leaves every piece of the state but its own location as it was (R41). -/
theorem frame_store (s : State) (a : DataAddr) (v : Nibble) : Frame [.ram a] s (s.store a v) := by
  intro p hp
  cases p with
  | ram b =>
    have hne : b ≠ a := by rintro rfl; exact hp (List.mem_singleton_self _)
    exact (State.load_store s a b v).trans (if_neg hne)
  | reg r => exact State.store_reg s r a v
  | _ => rfl

/-! The two kinds of move, whatever the pair. -/

/-- An instruction that means "ACC takes the nibble the pair addresses" changes ACC alone (R132, R133). -/
theorem completes_of_loads {i : Instr} {s : State} {p : Pair} (h : exec i s = .next (s.setAcc (s.loadPair p))) :
    ∃ t, Completes i s t [.acc] ∧ t.acc = s.load (s.pairAddr p) :=
  ⟨s.setAcc (s.loadPair p), ⟨h, frame_setAcc s _⟩, State.setAcc_acc s _⟩

/-- An instruction that means "the location the pair addresses takes ACC" changes that location alone (R134, R135). -/
theorem completes_of_stores {i : Instr} {s : State} {p : Pair} (h : exec i s = .next (s.storePair p s.acc)) :
    ∃ t, Completes i s t [.ram (s.pairAddr p)] ∧ t.load (s.pairAddr p) = s.acc :=
  ⟨s.storePair p s.acc, ⟨h, frame_store s _ _⟩, State.load_store_same s _ _⟩

/-! What the four instructions mean (R132 to R135). -/

theorem exec_movAM10 (s : State) : exec .movAM10 s = .next (s.setAcc (s.loadPair .p10)) := rfl

theorem exec_movM10A (s : State) : exec .movM10A s = .next (s.storePair .p10 s.acc) := rfl

theorem exec_movAM32 (s : State) : exec .movAM32 s = .next (s.setAcc (s.loadPair .p32)) := rfl

theorem exec_movM32A (s : State) : exec .movM32A s = .next (s.storePair .p32 s.acc) := rfl

/-- Settles O38: the addresses are `pairAddr_toNat`, and each pair's load and store is one of the two kinds of move. -/
theorem movesBetweenAccAndMemory : Obligations.MovesBetweenAccAndMemory := by
  refine ⟨pairAddr_toNat, List.forall_mem_cons.2 ⟨?pair10, List.forall_mem_singleton.2 ?pair32⟩⟩
  case pair10 =>
    exact ⟨fun _ _ => rfl, fun _ _ => rfl, fun s =>
      ⟨completes_of_loads (exec_movAM10 s), completes_of_stores (exec_movM10A s)⟩⟩
  case pair32 =>
    exact ⟨fun _ _ => rfl, fun _ _ => rfl, fun s =>
      ⟨completes_of_loads (exec_movAM32 s), completes_of_stores (exec_movM32A s)⟩⟩

end Sys2Proof.Proofs
end

section
/-! PROOFS. The frame of a write of a working register, and the moves between ACC and the working registers
(spec/43_datamove.md R130, R131). -/

namespace Sys2Proof.Proofs

open Sys2Proof Sys2Proof.Machine

/-- A write of a working register leaves every other piece of the state as it was (R12). -/
theorem frame_setReg (s : State) (r : Reg) (v : Nibble) : Frame [.reg r] s (s.setReg r v) := by
  intro p hp
  cases p with
  | reg q =>
    have hne : q ≠ r := by rintro rfl; exact hp (List.mem_singleton_self _)
    exact State.setReg_reg_other s r q v hne
  | _ => cases r <;> rfl

/-! The instructions `MOV A,Rn` and `MOV Rn,A` and their bytes as functions of the register: each fact about the ten
moves is then one statement over `Reg`. -/

/-- `MOV A,Rn` (R130). -/
def moveToAcc : Reg → Instr
  | .r0 => .movAR0
  | .r1 => .movAR1
  | .r2 => .movAR2
  | .r3 => .movAR3
  | .r4 => .movAR4

/-- `MOV Rn,A` (R131). -/
def moveFromAcc : Reg → Instr
  | .r0 => .movR0A
  | .r1 => .movR1A
  | .r2 => .movR2A
  | .r3 => .movR3A
  | .r4 => .movR4A

/-- The byte of `MOV A,Rn` (R130). -/
def moveToAccByte : Reg → Byte
  | .r0 => 0x21
  | .r1 => 0x23
  | .r2 => 0x25
  | .r3 => 0x27
  | .r4 => 0x29

/-- The byte of `MOV Rn,A` (R131). -/
def moveFromAccByte : Reg → Byte
  | .r0 => 0x20
  | .r1 => 0x22
  | .r2 => 0x24
  | .r3 => 0x26
  | .r4 => 0x28

theorem oneByte_moveToAcc (r : Reg) : OneByte (moveToAccByte r) (moveToAcc r) := by
  cases r <;> exact fun _ _ => rfl

theorem oneByte_moveFromAcc (r : Reg) : OneByte (moveFromAccByte r) (moveFromAcc r) := by
  cases r <;> exact fun _ _ => rfl

theorem exec_moveToAcc (s : State) (r : Reg) : exec (moveToAcc r) s = .next (s.setAcc (s.reg r)) := by
  cases r <;> rfl

theorem exec_moveFromAcc (s : State) (r : Reg) : exec (moveFromAcc r) s = .next (s.setReg r s.acc) := by
  cases r <;> rfl

theorem completes_moveToAcc (s : State) (r : Reg) : ∃ t, Completes (moveToAcc r) s t [.acc] ∧ t.acc = s.reg r :=
  ⟨s.setAcc (s.reg r), ⟨exec_moveToAcc s r, frame_setAcc s _⟩, State.setAcc_acc s _⟩

theorem completes_moveFromAcc (s : State) (r : Reg) :
    ∃ t, Completes (moveFromAcc r) s t [.reg r] ∧ t.reg r = s.acc :=
  ⟨s.setReg r s.acc, ⟨exec_moveFromAcc s r, frame_setReg s r _⟩, State.setReg_reg_same s r _⟩

/-- Settles O37: the obligation's list is the five registers, each with its two moves and their bytes. -/
theorem movesBetweenAccAndRegisters : Obligations.MovesBetweenAccAndRegisters := by
  change ∀ x ∈ [Reg.r0, .r1, .r2, .r3, .r4].map fun r =>
    (r, moveToAcc r, moveFromAcc r, moveToAccByte r, moveFromAccByte r), _
  exact List.forall_mem_map.2 fun r _ =>
    ⟨oneByte_moveToAcc r, oneByte_moveFromAcc r, fun s => ⟨completes_moveToAcc s r, completes_moveFromAcc s r⟩⟩

end Sys2Proof.Proofs
end

section
/-! PROOFS. The frame of a write of ACC and CF together, and the rotates (spec/44_rotate.md R140 to R143). -/

namespace Sys2Proof.Proofs

open Sys2Proof Sys2Proof.Machine

/-- A write of ACC and CF leaves every other piece of the state as it was (R10, R11). -/
theorem frame_setAccCf (s : State) (r : Nibble × Bool) : Frame [.acc, .cf] s (s.setAccCf r) := by
  intro p hp
  cases p with
  | acc => exact absurd List.mem_cons_self hp
  | cf => exact absurd (List.mem_cons_of_mem _ (List.mem_singleton_self _)) hp
  | reg q => exact (State.setCf_reg _ q r.2).trans (State.setAcc_reg s q r.1)
  | _ => rfl

/-- An instruction that means "a result and its carry go to ACC and CF" changes these two alone. -/
theorem completes_of_setAccCf {i : Instr} {s : State} {r : Nibble × Bool} (h : exec i s = .next (s.setAccCf r)) :
    Completes i s (s.setAccCf r) [.acc, .cf] :=
  ⟨h, frame_setAccCf s r⟩

/-! The rotates that bring in the bit they put out are the rotates through the carry, with that bit as the carry. -/

theorem extractLsb'_one_eq_ofBool (a : Nibble) (k : Nat) : a.extractLsb' k 1 = BitVec.ofBool (a.getLsbD k) :=
  BitVec.eq_of_getLsbD_eq fun i hi => by
    obtain rfl := Nat.lt_one_iff.1 hi
    simp

theorem rotateLeft_eq_rotateLeftCarry (a : Nibble) : rotateLeft a = rotateLeftCarry a (a.getLsbD 3) := by
  rw [rotateLeft, rotateLeftCarry, extractLsb'_one_eq_ofBool]

theorem rotateRight_eq_rotateRightCarry (a : Nibble) : rotateRight a = rotateRightCarry a (a.getLsbD 0) := by
  rw [rotateRight, rotateRightCarry, extractLsb'_one_eq_ofBool]

/-! The bits of the rotated nibble: three bits of the old one, and `c` at the open end. -/

/-- Rotating left, the inner bits go up one place, bit 0 takes `c` and the carry takes bit 3 (R140, R141). -/
theorem rotateLeftCarry_bits (a : Nibble) (c : Bool) :
    (∀ n, n < 3 → (rotateLeftCarry a c).1.getLsbD (n + 1) = a.getLsbD n) ∧
      (rotateLeftCarry a c).1.getLsbD 0 = c ∧ (rotateLeftCarry a c).2 = a.getLsbD 3 := by
  refine ⟨fun n hn => BitVec.getLsbD_append.trans ?inner, BitVec.getLsbD_append.trans ?openEnd,
    (rotateLeftCarry_spec a c).2⟩
  case inner => simp [hn]
  case openEnd => simp

/-- Rotating right, the inner bits go down one place, bit 3 takes `c` and the carry takes bit 0 (R142, R143). -/
theorem rotateRightCarry_bits (a : Nibble) (c : Bool) :
    (∀ n, n < 3 → (rotateRightCarry a c).1.getLsbD n = a.getLsbD (n + 1)) ∧
      (rotateRightCarry a c).1.getLsbD 3 = c ∧ (rotateRightCarry a c).2 = a.getLsbD 0 := by
  refine ⟨fun n hn => BitVec.getLsbD_append.trans ?inner, BitVec.getLsbD_append.trans ?openEnd,
    (rotateRightCarry_spec a c).2⟩
  case inner => simp [hn, Nat.add_comm]
  case openEnd => simp

/-! What the four instructions mean (R140 to R143). -/

theorem exec_rlA (s : State) : exec .rlA s = .next (s.setAccCf (rotateLeftCarry s.acc (s.acc.getLsbD 3))) := by
  rw [← rotateLeft_eq_rotateLeftCarry]; rfl

theorem exec_rlcA (s : State) : exec .rlcA s = .next (s.setAccCf (rotateLeftCarry s.acc s.cf)) := rfl

theorem exec_rrA (s : State) : exec .rrA s = .next (s.setAccCf (rotateRightCarry s.acc (s.acc.getLsbD 0))) := by
  rw [← rotateRight_eq_rotateRightCarry]; rfl

theorem exec_rrcA (s : State) : exec .rrcA s = .next (s.setAccCf (rotateRightCarry s.acc s.cf)) := rfl

/-! The two directions, whatever bit comes in at the open end. -/

/-- An instruction that rotates left with `c` coming in moves the bits of ACC so and changes ACC and CF alone. -/
theorem completes_of_rotatesLeft {i : Instr} {s : State} {c : Bool}
    (h : exec i s = .next (s.setAccCf (rotateLeftCarry s.acc c))) :
    ∃ t, Completes i s t [.acc, .cf] ∧ (∀ n, n < 3 → t.acc.getLsbD (n + 1) = s.acc.getLsbD n) ∧
      t.acc.getLsbD 0 = c ∧ t.cf = s.acc.getLsbD 3 :=
  ⟨_, completes_of_setAccCf h, rotateLeftCarry_bits s.acc c⟩

/-- An instruction that rotates right with `c` coming in moves the bits of ACC so and changes ACC and CF alone. -/
theorem completes_of_rotatesRight {i : Instr} {s : State} {c : Bool}
    (h : exec i s = .next (s.setAccCf (rotateRightCarry s.acc c))) :
    ∃ t, Completes i s t [.acc, .cf] ∧ (∀ n, n < 3 → t.acc.getLsbD n = s.acc.getLsbD (n + 1)) ∧
      t.acc.getLsbD 3 = c ∧ t.cf = s.acc.getLsbD 0 :=
  ⟨_, completes_of_setAccCf h, rotateRightCarry_bits s.acc c⟩

/-- Settles O41: `RL A` and `RLC A` rotate left, `RR A` and `RRC A` right, each with its own bit coming in. -/
theorem rotatesMoveOneBit : Obligations.RotatesMoveOneBit := by
  refine ⟨fun _ _ => rfl, fun _ _ => rfl, fun _ _ => rfl, fun _ _ => rfl, fun s => ⟨?rl, ?rlc, ?rr, ?rrc⟩⟩
  case rl => exact completes_of_rotatesLeft (exec_rlA s)
  case rlc => exact completes_of_rotatesLeft (exec_rlcA s)
  case rr => exact completes_of_rotatesRight (exec_rrA s)
  case rrc => exact completes_of_rotatesRight (exec_rrcA s)

end Sys2Proof.Proofs
end

section
/-! PROOFS. The frame of a write of CF, and `CLC` and `NOP` (spec/47_subroutine_flag_nop.md R173, R177). -/

namespace Sys2Proof.Proofs

open Sys2Proof Sys2Proof.Machine

/-- A write of CF leaves every other piece of the state as it was (R11). -/
theorem frame_setCf (s : State) (c : Bool) : Frame [.cf] s (s.setCf c) := by
  intro p hp
  cases p with
  | cf => exact absurd (List.mem_singleton_self _) hp
  | reg r => exact State.setCf_reg s r c
  | _ => rfl

/-- An instruction that means "CF takes `c`" changes CF alone. -/
theorem completes_of_setCf {i : Instr} {s : State} {c : Bool} (h : exec i s = .next (s.setCf c)) :
    ∃ t, Completes i s t [.cf] ∧ t.cf = c :=
  ⟨s.setCf c, ⟨h, frame_setCf s c⟩, State.setCf_cf s c⟩

/-! The two instructions: their bytes, and what they mean (R173, R177). -/

theorem oneByte_clc : OneByte 0x2A .clc := fun _ _ => rfl

theorem oneByte_nop : OneByte 0x3E .nop := fun _ _ => rfl

theorem exec_clc (s : State) : exec .clc s = .next (s.setCf false) := rfl

theorem exec_nop (s : State) : exec .nop s = .next s := rfl

/-- Settles O50: `CLC` is a write of CF, and `NOP` answers the state it was given. -/
theorem clearCarryAndNoOperation : Obligations.ClearCarryAndNoOperation :=
  ⟨oneByte_clc, oneByte_nop, fun s => ⟨completes_of_setCf (exec_clc s), exec_nop s⟩⟩

end Sys2Proof.Proofs
end

section
/-! PROOFS. The nibbles of the timer, and their moves to ACC (spec/48_timer_tableread.md R183, R184). -/

namespace Sys2Proof.Proofs

open Sys2Proof Sys2Proof.Machine

/-! The nibbles of the timer as numbers (R22). -/

theorem timerLow_toNat (s : State) : s.timerLow.toNat = s.timer.toNat % 16 := (nibbles_toNat s.timer).2

theorem timerHigh_toNat (s : State) : s.timerHigh.toNat = s.timer.toNat / 16 := (nibbles_toNat s.timer).1

/-- An instruction that means "ACC takes the nibble `v`" changes ACC alone, and ACC then counts as `v` does. -/
theorem completes_of_setAcc {i : Instr} {s : State} {v : Nibble} {n : Nat} (h : exec i s = .next (s.setAcc v))
    (hv : v.toNat = n) : ∃ t, Completes i s t [.acc] ∧ t.acc.toNat = n :=
  ⟨s.setAcc v, ⟨h, frame_setAcc s v⟩, by rw [State.setAcc_acc, hv]⟩

/-! The two instructions: their bytes, and what they mean (R183, R184). -/

theorem oneByte_movATmrl : OneByte 0x3A .movATmrl := fun _ _ => rfl

theorem oneByte_movATmrh : OneByte 0x3B .movATmrh := fun _ _ => rfl

theorem exec_movATmrl (s : State) : exec .movATmrl s = .next (s.setAcc s.timerLow) := rfl

theorem exec_movATmrh (s : State) : exec .movATmrh s = .next (s.setAcc s.timerHigh) := rfl

/-- Settles O52: each instruction is a write of ACC, with the low or the high nibble of the timer. -/
theorem timerNibbleReads : Obligations.TimerNibbleReads := by
  refine ⟨oneByte_movATmrl, oneByte_movATmrh, fun s => ⟨?low, ?high⟩⟩
  case low => exact completes_of_setAcc (exec_movATmrl s) (timerLow_toNat s)
  case high => exact completes_of_setAcc (exec_movATmrh s) (timerHigh_toNat s)

end Sys2Proof.Proofs
end

section
/-! PROOFS. The start of a sound and its frame, and `SOUND A` (spec/49_sound_halt.md R196). -/

namespace Sys2Proof.Proofs

open Sys2Proof Sys2Proof.Machine

/-! What the start of a sound writes, and its frame (R27). -/

@[simp] theorem startSound_sndCh (s : State) (n : Nibble) : (s.startSound n).sndCh = n := rfl

@[simp] theorem startSound_sndOn (s : State) (n : Nibble) : (s.startSound n).sndOn = true := rfl

@[simp] theorem startSound_reg (s : State) (n : Nibble) (r : Reg) : (s.startSound n).reg r = s.reg r := by
  cases r <;> rfl

/-- The start of a sound leaves every piece of the state but the channel and the playing bit, the mode among them. -/
theorem frame_startSound (s : State) (n : Nibble) : Frame [.sndCh, .sndOn] s (s.startSound n) := by
  intro p hp
  cases p with
  | sndCh => exact absurd List.mem_cons_self hp
  | sndOn => exact absurd (List.mem_cons_of_mem _ List.mem_cons_self) hp
  | reg r => exact startSound_reg s n r
  | _ => rfl

/-- An instruction that means "the sound of channel `n` begins" changes the channel and the playing bit alone. -/
theorem completes_of_startSound {i : Instr} {s : State} {n : Nibble} (h : exec i s = .next (s.startSound n)) :
    ∃ t, Completes i s t [.sndCh, .sndOn] ∧ t.sndCh = n ∧ t.sndOn = true :=
  ⟨s.startSound n, ⟨h, frame_startSound s n⟩, startSound_sndCh s n, startSound_sndOn s n⟩

/-! The instruction: its byte, and what it means (R196). -/

theorem oneByte_soundA : OneByte 0x4B .soundA := fun _ _ => rfl

theorem exec_soundA (s : State) : exec .soundA s = .next (s.startSound s.acc) := rfl

/-- Settles O56: `SOUND A` is the start of the sound whose channel ACC holds. -/
theorem soundChannelFromAccumulator : Obligations.SoundChannelFromAccumulator :=
  ⟨oneByte_soundA, fun s => completes_of_startSound (exec_soundA s)⟩

end Sys2Proof.Proofs
end

section
/-! PROOFS. The frame of the count step, and what it does to TIMER and TF (spec/60_exceptions.md R225). -/

namespace Sys2Proof.Proofs

open Sys2Proof Sys2Proof.Machine

/-- A write of TIMER, TF and the schedule leaves every other piece of the state as it was (R22, R24). -/
theorem frame_timerTfSchedule (s : State) (n : Byte) (f : Bool) (rest : List Move) :
    Frame [.timer, .tf, .schedule] s { s with timer := n, tf := f, schedule := rest } := by
  intro p hp
  cases p with
  | timer | tf | schedule => simp at hp
  | reg r => cases r <;> rfl
  | _ => rfl

/-- Below FFH one more is one more as a number too. -/
theorem byte_add_one_toNat {b : Byte} (h : b ≠ 0xFF) : (b + 1).toNat = b.toNat + 1 := by bv_omega

/-! The step that a tick makes: one rule for each way the count can go. -/

section
variable {s : State} {rest : List Move} (h : s.schedule = .timerTick :: rest)
include h

/-- A tick that is next on the schedule is taken off it, and the timer moves. -/
theorem step_of_timerTick : step s = .next (State.timerTick { s with schedule := rest }) :=
  step_of_device h nofun

/-- Enabled, at FFH: the count goes to 00H, and TF is set with it. -/
theorem step_timerTick_overflow (hon : s.ton = true) (hrun : s.halted = false) (hff : s.timer = 0xFF) :
    step s = .next { s with timer := 0x00, tf := true, schedule := rest } :=
  (step_of_timerTick h).trans (congrArg Host.Outcome.next (timerTick_overflow _ (by simp [hon, hrun]) hff))

/-- Enabled, below FFH: the count goes up, and TF stays. -/
theorem step_timerTick_count (hon : s.ton = true) (hrun : s.halted = false) (hff : s.timer ≠ 0xFF) :
    step s = .next { s with timer := s.timer + 1, schedule := rest } :=
  (step_of_timerTick h).trans (congrArg Host.Outcome.next (timerTick_count _ (by simp [hon, hrun]) hff))

/-- Not enabled: the tick leaves the schedule, and nothing else happens. -/
theorem step_timerTick_idle (hoff : s.ton = false ∨ s.halted = true) : step s = .next { s with schedule := rest } :=
  have disabled : (s.ton && !s.halted) = false := by rcases hoff with hton | hhalted <;> simp [*]
  (step_of_timerTick h).trans (congrArg Host.Outcome.next (timerTick_idle _ disabled))

end

/-- Settles O19: a tick finds the count enabled or not, and if enabled at FFH or below it; each is one of the rules. -/
theorem timerCountStep : Obligations.TimerCountStep := by
  intro s rest h
  by_cases enabled : s.ton = true ∧ s.halted = false
  case pos =>
    obtain ⟨hon, hrun⟩ := enabled
    have notIdle : ¬(s.ton = false ∨ s.halted = true) := by simp [hon, hrun]
    by_cases hff : s.timer = 0xFF
    case pos =>
      exact ⟨_, step_timerTick_overflow h hon hrun hff, frame_timerTfSchedule s _ _ rest, rfl,
        fun _ _ => ⟨fun _ => ⟨rfl, rfl⟩, absurd hff⟩, fun idle => absurd idle notIdle⟩
    case neg =>
      exact ⟨_, step_timerTick_count h hon hrun hff, frame_timerTfSchedule s _ s.tf rest, rfl,
        fun _ _ => ⟨(absurd · hff), fun _ => ⟨byte_add_one_toNat hff, rfl⟩⟩, fun idle => absurd idle notIdle⟩
  case neg =>
    have idle : s.ton = false ∨ s.halted = true := by simpa [imp_iff_not_or] using enabled
    exact ⟨_, step_timerTick_idle h idle, frame_timerTfSchedule s s.timer s.tf rest, rfl,
      fun hon hrun => absurd ⟨hon, hrun⟩ enabled, fun _ => ⟨rfl, rfl⟩⟩

end Sys2Proof.Proofs
end

section
/-! PROOFS. Words and their parts, and the formats of the encodings (spec/30_encoding.md R61 to R73): what the decoder does with
the bytes of each format. -/

namespace Sys2Proof.Proofs

open Sys2Proof Sys2Proof.Machine

/-! The parts of a word put side by side, and the two parts of a word. -/

theorem high_append {v w : Nat} (x : BitVec v) (y : BitVec w) : (x ++ y).extractLsb' w v = x := by
  rw [BitVec.extractLsb'_append_eq_of_le (Nat.le_refl w)]; simp

theorem low_append {v w : Nat} (x : BitVec v) (y : BitVec w) : (x ++ y).extractLsb' 0 w = y := by
  rw [BitVec.extractLsb'_append_eq_of_add_le (by simp)]; simp

theorem high_append_low {v w : Nat} (x : BitVec (v + w)) : x.extractLsb' w v ++ x.extractLsb' 0 w = x := by
  rw [BitVec.extractLsb'_append_extractLsb'_eq_extractLsb' (Nat.zero_add w).symm, BitVec.extractLsb'_eq_self]

theorem hiNibble_append (hi lo : Nibble) : hiNibble (hi ++ lo) = hi := high_append hi lo

theorem loNibble_append (hi lo : Nibble) : loNibble (hi ++ lo) = lo := low_append hi lo

theorem hiNibble_append_loNibble (b : Byte) : hiNibble b ++ loNibble b = b := high_append_low (v := 4) (w := 4) b

/-- Bits 7:4 of a byte are 0000 exactly below 16 (R72). -/
theorem hiNibble_eq_zero_iff (b : Byte) : hiNibble b = 0 ↔ b.toNat < 16 := by
  rw [← BitVec.toNat_inj, (nibbles_toNat b).1]
  exact Nat.div_eq_zero_iff.trans (by simp)

/-! Admitted encodings (R73) and checked second bytes (R72). -/

theorem ifAdmitted_of_admitted {c : Config} {i : Instr} (h : c.admitUnsourced = true) : ifAdmitted c i = .ok i :=
  if_pos h

theorem ifAdmitted_of_not_admitted {c : Config} {i : Instr} (h : c.admitUnsourced = false) :
    ifAdmitted c i = .bad (.unsourced i) := by
  simp [ifAdmitted, h]

theorem checked_ok {i : Instr} {b0 b1 : Byte} (h : hiNibble b1 = 0) : (Decoded.ok i).checked b0 b1 = .ok i :=
  if_pos h

theorem checked_malformed {i : Instr} {b0 b1 : Byte} (h : 16 ≤ b1.toNat) :
    (Decoded.ok i).checked b0 b1 = .bad (.malformedSecond b0 b1) :=
  if_neg fun h0 => absurd ((hiNibble_eq_zero_iff b1).1 h0) (Nat.not_lt.2 h)

/-! The formats, from what the decoder's table holds at the opcode. -/

theorem oneByteAdmitted_of_decode {b0 : Byte} {i : Instr} (h : ∀ c b1, decode c b0 b1 = ifAdmitted c i) :
    OneByteAdmitted b0 i :=
  fun c b1 hc => (h c b1).trans (ifAdmitted_of_admitted hc)

theorem checked_imm4 (b0 : Byte) (i : Nibble → Instr) (d : Nibble) :
    (Decoded.ok (i (loNibble (0#4 ++ d)))).checked b0 (0#4 ++ d) = .ok (i d) := by
  rw [loNibble_append]
  exact checked_ok (hiNibble_append _ _)

theorem imm4Form_of_decode {b0 : Byte} {i : Nibble → Instr}
    (h : ∀ c b1, decode c b0 b1 = (Decoded.ok (i (loNibble b1))).checked b0 b1) : Imm4Form b0 i :=
  ⟨fun c d => (h c _).trans (checked_imm4 b0 i d), fun c b1 hb => (h c b1).trans (checked_malformed hb)⟩

theorem imm4Admitted_of_decode {b0 : Byte} {i : Nibble → Instr}
    (h : ∀ c b1, decode c b0 b1 = (ifAdmitted c (i (loNibble b1))).checked b0 b1) : Imm4Admitted b0 i := by
  refine ⟨fun c d hc => ?_, fun c b1 hc hb => ?_⟩
  · rw [h, ifAdmitted_of_admitted hc, checked_imm4]
  · rw [h, ifAdmitted_of_admitted hc, checked_malformed hb]

/-- Format `PAIR8` (R61, R65, R72): the second byte is checked, and the immediate is of both bytes. -/
def PairForm (op : Nibble) (i : Byte → Instr) : Prop :=
  ∀ c (d0 : Nibble) (b1 : Byte), decode c (op ++ d0) b1 =
    (Decoded.ok (i (pairImm c (op ++ d0) b1))).checked (op ++ d0) b1

theorem PairForm.decode_lowFirst {op : Nibble} {i : Byte → Instr} (form : PairForm op i) {c : Config}
    (h : c.pairOrder = .lowFirst) (d0 d1 : Nibble) : decode c (op ++ d0) (0#4 ++ d1) = .ok (i (d1 ++ d0)) := by
  rw [form, pairImm, h]
  simp only [loNibble_append]
  exact checked_ok (hiNibble_append _ _)

theorem PairForm.decode_highFirst {op : Nibble} {i : Byte → Instr} (form : PairForm op i) {c : Config}
    (h : c.pairOrder = .highFirst) (d0 d1 : Nibble) : decode c (op ++ d0) (0#4 ++ d1) = .ok (i (d0 ++ d1)) := by
  rw [form, pairImm, h]
  simp only [loNibble_append]
  exact checked_ok (hiNibble_append _ _)

theorem PairForm.decode_malformed {op : Nibble} {i : Byte → Instr} (form : PairForm op i) (c : Config) (d0 : Nibble)
    {b1 : Byte} (h : 16 ≤ b1.toNat) : decode c (op ++ d0) b1 = .bad (.malformedSecond (op ++ d0) b1) :=
  (form c d0 b1).trans (checked_malformed h)

/-- The bytes whose bits 7:3 are one of the twelve jump opcodes are jumps (R68, R69). -/
theorem decode_jump (c : Config) {b0 : Byte} (b1 : Byte) (hlo : 16 ≤ (b0.extractLsb' 3 5).toNat)
    (hhi : (b0.extractLsb' 3 5).toNat < 28) : decode c b0 b1 = .ok (decodeJump b0 b1) := by
  rw [BitVec.extractLsb'_toNat, Nat.shiftRight_eq_div_pow] at hlo hhi
  have hn : (hiNibble b0).toNat = 8 ∨ (hiNibble b0).toNat = 9 ∨ (hiNibble b0).toNat = 10 ∨
      (hiNibble b0).toNat = 11 ∨ (hiNibble b0).toNat = 12 ∨ (hiNibble b0).toNat = 13 := by
    rw [(nibbles_toNat b0).1]; omega
  rcases hn with h | h | h | h | h | h <;> (rw [decode, h]; rfl)

theorem addr11Form_of_decodeJump {op : BitVec 5} {i : JumpAddr → Instr} (hlo : 16 ≤ op.toNat) (hhi : op.toNat < 28)
    (h : ∀ b0 b1, (b0.extractLsb' 3 5).toNat = op.toNat → decodeJump b0 b1 = i (addr11Of b0 b1)) : Addr11Form op i := by
  intro c hi lo
  have hop : ((op ++ hi).extractLsb' 3 5).toNat = op.toNat := congrArg BitVec.toNat (high_append op hi)
  rw [decode_jump c lo (hop ▸ hlo) (hop ▸ hhi), h _ _ hop, addr11Of, low_append op hi]

theorem addr12Form_of_decode {op : Nibble} {i : CodeAddr → Instr}
    (h : ∀ c b0 b1, (hiNibble b0).toNat = op.toNat → decode c b0 b1 = .ok (i (addr12Of b0 b1))) : Addr12Form op i := by
  intro c hi lo
  rw [h _ _ _ (congrArg BitVec.toNat (hiNibble_append op hi)), addr12Of, loNibble_append]

/-! The formats' opcodes. -/

theorem imm4Form_addAImm : Imm4Form 0x40 .addAImm := imm4Form_of_decode fun _ _ => rfl

theorem imm4Admitted_subAImm : Imm4Admitted 0x41 .subAImm := imm4Admitted_of_decode fun _ _ => rfl

theorem imm4Form_andAImm : Imm4Form 0x42 .andAImm := imm4Form_of_decode fun _ _ => rfl

theorem imm4Admitted_xorAImm : Imm4Admitted 0x43 .xorAImm := imm4Admitted_of_decode fun _ _ => rfl

theorem imm4Form_orAImm : Imm4Form 0x44 .orAImm := imm4Form_of_decode fun _ _ => rfl

theorem imm4Admitted_soundImm : Imm4Admitted 0x45 .soundImm := imm4Admitted_of_decode fun _ _ => rfl

theorem imm4Form_movR4Imm : Imm4Form 0x46 .movR4Imm := imm4Form_of_decode fun _ _ => rfl

theorem decode_timerImm {c : Config} (d : Byte) (h : c.admitUnsourced = true) : decode c 0x47 d = .ok (.timerImm d) :=
  ifAdmitted_of_admitted h

theorem decode_halt (c : Config) : decode c 0x37 0x3E = .ok .halt := rfl

theorem decode_movAImm (c : Config) (d : Nibble) (b1 : Byte) : decode c (7#4 ++ d) b1 = .ok (.movAImm d) := by
  rw [decode, hiNibble_append, loNibble_append]; rfl

theorem pairForm_movR1R0Imm : PairForm 0b0101 .movR1R0Imm := fun _ _ _ => by rw [decode, hiNibble_append]; rfl

theorem pairForm_movR3R2Imm : PairForm 0b0110 .movR3R2Imm := fun _ _ _ => by rw [decode, hiNibble_append]; rfl

theorem addr11Form_ja0 : Addr11Form 0b10000 .ja0 :=
  addr11Form_of_decodeJump (by decide) (by decide) fun _ _ h => by rw [decodeJump, h]; rfl

theorem addr11Form_ja1 : Addr11Form 0b10001 .ja1 :=
  addr11Form_of_decodeJump (by decide) (by decide) fun _ _ h => by rw [decodeJump, h]; rfl

theorem addr11Form_ja2 : Addr11Form 0b10010 .ja2 :=
  addr11Form_of_decodeJump (by decide) (by decide) fun _ _ h => by rw [decodeJump, h]; rfl

theorem addr11Form_ja3 : Addr11Form 0b10011 .ja3 :=
  addr11Form_of_decodeJump (by decide) (by decide) fun _ _ h => by rw [decodeJump, h]; rfl

theorem addr11Form_jnzR0 : Addr11Form 0b10100 .jnzR0 :=
  addr11Form_of_decodeJump (by decide) (by decide) fun _ _ h => by rw [decodeJump, h]; rfl

theorem addr11Form_jnzR1 : Addr11Form 0b10101 .jnzR1 :=
  addr11Form_of_decodeJump (by decide) (by decide) fun _ _ h => by rw [decodeJump, h]; rfl

theorem addr11Form_jzA : Addr11Form 0b10110 .jzA :=
  addr11Form_of_decodeJump (by decide) (by decide) fun _ _ h => by rw [decodeJump, h]; rfl

theorem addr11Form_jnzA : Addr11Form 0b10111 .jnzA :=
  addr11Form_of_decodeJump (by decide) (by decide) fun _ _ h => by rw [decodeJump, h]; rfl

theorem addr11Form_jc : Addr11Form 0b11000 .jc :=
  addr11Form_of_decodeJump (by decide) (by decide) fun _ _ h => by rw [decodeJump, h]; rfl

theorem addr11Form_jnc : Addr11Form 0b11001 .jnc :=
  addr11Form_of_decodeJump (by decide) (by decide) fun _ _ h => by rw [decodeJump, h]; rfl

theorem addr11Form_jtmr : Addr11Form 0b11010 .jtmr :=
  addr11Form_of_decodeJump (by decide) (by decide) fun _ _ h => by rw [decodeJump, h]; rfl

theorem addr11Form_jnzR4 : Addr11Form 0b11011 .jnzR4 :=
  addr11Form_of_decodeJump (by decide) (by decide) fun _ _ h => by rw [decodeJump, h]; rfl

theorem addr12Form_jmp : Addr12Form 0b1110 .jmp :=
  addr12Form_of_decode fun _ _ _ h => by rw [decode, h]; rfl

theorem addr12Form_call : Addr12Form 0b1111 .call :=
  addr12Form_of_decode fun _ _ _ h => by rw [decode, h]; rfl

end Sys2Proof.Proofs
end

section
/-! PROOFS. Decoding what was encoded (spec/30_encoding.md R61 to R73). -/

namespace Sys2Proof.Proofs

open Sys2Proof Sys2Proof.Machine

/-- The stream decoder reads the instruction's encoding and stops right after it. -/
def ReadsBack (c : Config) (i : Instr) : Prop := ∀ rest, decodeStream c (encode c i ++ rest) = some (i, rest)

theorem readsBack_of_oneByte {c : Config} {i : Instr} {b0 : Byte} (he : encode c i = [b0]) (hl : i.length = 1)
    (hd : ∀ b1, decode c b0 b1 = .ok i) : ReadsBack c i := by
  intro rest
  simp [he, decodeStream, hd, hl]

theorem readsBack_of_twoBytes {c : Config} {i : Instr} {b0 b1 : Byte} (he : encode c i = [b0, b1]) (hl : i.length = 2)
    (hd : decode c b0 b1 = .ok i) : ReadsBack c i := by
  intro rest
  simp [he, decodeStream, hd, hl]

/-- An unsourced instruction is well-formed only where unsourced encodings are admitted (R73). -/
theorem admitted_of_wellFormed {c : Config} {i : Instr} (hw : i.wellFormed c = true) (hu : i.unsourced = true) :
    c.admitUnsourced = true := by
  simpa [Instr.wellFormed, hu] using hw

theorem readsBack_of_addr11 {c : Config} {op : BitVec 5} {i : JumpAddr → Instr} (form : Addr11Form op i) (a : JumpAddr)
    (he : encode c (i a) = addr11Bytes op a) (hl : (i a).length = 2) : ReadsBack c (i a) :=
  readsBack_of_twoBytes he hl ((form c _ _).trans (by rw [high_append_low (v := 3) (w := 8) a]))

theorem readsBack_of_addr12 {c : Config} {op : Nibble} {i : CodeAddr → Instr} (form : Addr12Form op i) (a : CodeAddr)
    (he : encode c (i a) = addr12Bytes op a) (hl : (i a).length = 2) : ReadsBack c (i a) :=
  readsBack_of_twoBytes he hl ((form c _ _).trans (by rw [high_append_low (v := 4) (w := 8) a]))

/-- In either order of the nibbles, the pair immediate of the bytes of `d` is `d` (R65). -/
theorem readsBack_of_pair {c : Config} {op : Nibble} {i : Byte → Instr} (form : PairForm op i) (d : Byte)
    (he : encode c (i d) = pairBytes c op d) (hl : (i d).length = 2) : ReadsBack c (i d) := by
  cases ho : c.pairOrder with
  | lowFirst =>
    exact readsBack_of_twoBytes (he.trans (by rw [pairBytes, ho]; rfl)) hl
      ((form.decode_lowFirst ho (loNibble d) (hiNibble d)).trans (by rw [hiNibble_append_loNibble]))
  | highFirst =>
    exact readsBack_of_twoBytes (he.trans (by rw [pairBytes, ho]; rfl)) hl
      ((form.decode_highFirst ho (hiNibble d) (loNibble d)).trans (by rw [hiNibble_append_loNibble]))

/-- Every well-formed instruction is read back: by its format where it has an operand, else by the decoder's table. -/
theorem readsBack_of_wellFormed (c : Config) (i : Instr) (hw : i.wellFormed c = true) : ReadsBack c i := by
  have admitted := admitted_of_wellFormed hw
  cases i with
  | subAM10 | xorAM10 | xorM10A | stc | timerOn | timerOff | soundOne | soundLoop | soundOff =>
    exact readsBack_of_oneByte rfl rfl fun _ => ifAdmitted_of_admitted (admitted rfl)
  | addAImm d => exact readsBack_of_twoBytes rfl rfl (imm4Form_addAImm.1 c d)
  | andAImm d => exact readsBack_of_twoBytes rfl rfl (imm4Form_andAImm.1 c d)
  | orAImm d => exact readsBack_of_twoBytes rfl rfl (imm4Form_orAImm.1 c d)
  | movR4Imm d => exact readsBack_of_twoBytes rfl rfl (imm4Form_movR4Imm.1 c d)
  | subAImm d => exact readsBack_of_twoBytes rfl rfl (imm4Admitted_subAImm.1 c d (admitted rfl))
  | xorAImm d => exact readsBack_of_twoBytes rfl rfl (imm4Admitted_xorAImm.1 c d (admitted rfl))
  | soundImm n => exact readsBack_of_twoBytes rfl rfl (imm4Admitted_soundImm.1 c n (admitted rfl))
  | timerImm d => exact readsBack_of_twoBytes rfl rfl (decode_timerImm d (admitted rfl))
  | halt => exact readsBack_of_twoBytes rfl rfl (decode_halt c)
  | movAImm d => exact readsBack_of_oneByte rfl rfl (decode_movAImm c d)
  | movR1R0Imm d => exact readsBack_of_pair pairForm_movR1R0Imm d rfl rfl
  | movR3R2Imm d => exact readsBack_of_pair pairForm_movR3R2Imm d rfl rfl
  | ja0 a => exact readsBack_of_addr11 addr11Form_ja0 a rfl rfl
  | ja1 a => exact readsBack_of_addr11 addr11Form_ja1 a rfl rfl
  | ja2 a => exact readsBack_of_addr11 addr11Form_ja2 a rfl rfl
  | ja3 a => exact readsBack_of_addr11 addr11Form_ja3 a rfl rfl
  | jnzR0 a => exact readsBack_of_addr11 addr11Form_jnzR0 a rfl rfl
  | jnzR1 a => exact readsBack_of_addr11 addr11Form_jnzR1 a rfl rfl
  | jzA a => exact readsBack_of_addr11 addr11Form_jzA a rfl rfl
  | jnzA a => exact readsBack_of_addr11 addr11Form_jnzA a rfl rfl
  | jc a => exact readsBack_of_addr11 addr11Form_jc a rfl rfl
  | jnc a => exact readsBack_of_addr11 addr11Form_jnc a rfl rfl
  | jtmr a => exact readsBack_of_addr11 addr11Form_jtmr a rfl rfl
  | jnzR4 a => exact readsBack_of_addr11 addr11Form_jnzR4 a rfl rfl
  | jmp a => exact readsBack_of_addr12 addr12Form_jmp a rfl rfl
  | call a => exact readsBack_of_addr12 addr12Form_call a rfl rfl
  | _ => exact readsBack_of_oneByte rfl rfl fun _ => rfl

/-- Settles O1: each instruction is read back by its format. -/
theorem decodeStreamInvertsEncode : Obligations.DecodeStreamInvertsEncode :=
  fun c i rest hw => readsBack_of_wellFormed c i hw rest

/-- Settles O5: the ten words, by evaluation. -/
theorem sampleWordsDecode : Obligations.SampleWordsDecode := by
  unfold Obligations.SampleWordsDecode
  decide

end Sys2Proof.Proofs
end

section
/-! PROOFS. The decoder's table, read the other way (spec/30_encoding.md R60, R70 to R77): one account of every outcome of
`decode`, from which the statements about lengths, encodings and refusals follow. -/

namespace Sys2Proof.Proofs

open Sys2Proof Sys2Proof.Machine

/-! The first bytes with something special about them, and what can be wrong with two bytes. -/

/-- The first bytes of two-byte instructions (R60). -/
abbrev TwoByteFirst (b0 : Byte) : Prop :=
  b0.toNat = 0x37 ∨ (0x40 ≤ b0.toNat ∧ b0.toNat ≤ 0x47) ∨ (0x50 ≤ b0.toNat ∧ b0.toNat ≤ 0x6F) ∨ 0x80 ≤ b0.toNat

/-- The first bytes that select no instruction (R71). -/
abbrev IllegalFirst (b0 : Byte) : Prop := b0 = 0x32#8 ∨ b0 = 0x35#8

/-- The first bytes whose instructions the source has lost (R73). -/
abbrev UnsourcedFirst (b0 : Byte) : Prop :=
  b0 ∈ [0x0B#8, 0x1B, 0x1E, 0x2B, 0x38, 0x39, 0x41, 0x43, 0x45, 0x47, 0x48, 0x49, 0x4A]

/-- The first bytes whose second byte begins with 0000 (R72). -/
abbrev CheckedFirst (b0 : Byte) : Prop := (0x40 ≤ b0.toNat ∧ b0.toNat ≤ 0x46) ∨ (0x50 ≤ b0.toNat ∧ b0.toNat ≤ 0x6F)

/-- The encoding is lost to this configuration (R73). -/
abbrev Lost (c : Config) (b0 : Byte) : Prop := c.admitUnsourced = false ∧ UnsourcedFirst b0

/-- The second byte is not one that the first byte's format allows (R72). -/
abbrev Malformed (b0 b1 : Byte) : Prop := (b0 = 0x37#8 ∧ b1 ≠ 0x3E#8) ∨ (CheckedFirst b0 ∧ 16 ≤ b1.toNat)

/-- THE ACCOUNT: what must hold of two bytes for the decoder to answer as it does. -/
def Accounts (c : Config) (b0 b1 : Byte) : Decoded → Prop
  | .ok i => i.wellFormed c = true ∧ (encode c i = if i.length = 1 then [b0] else [b0, b1]) ∧
      (i.length = if TwoByteFirst b0 then 2 else 1) ∧ ¬IllegalFirst b0 ∧ ¬Lost c b0 ∧ ¬Malformed b0 b1
  | .bad (.illegalFirst b) => b = b0 ∧ IllegalFirst b0
  | .bad (.unsourced i) => i.unsourced = true ∧ Lost c b0
  | .bad (.malformedSecond b b') => b = b0 ∧ b' = b1 ∧ ¬Lost c b0 ∧ Malformed b0 b1

theorem wellFormed_of_sourced {c : Config} {i : Instr} (h : i.unsourced = false) : i.wellFormed c = true := by
  simp [Instr.wellFormed, h]

theorem wellFormed_of_admitted {c : Config} {i : Instr} (h : c.admitUnsourced = true) : i.wellFormed c = true := by
  simp [Instr.wellFormed, h]

/-! The account of each kind of row of the table. The facts about a fixed opcode are found by evaluation. -/

section
variable {c : Config} {b0 b1 : Byte} {i : Instr}

theorem twoByteFirst_of_checkedFirst (h : CheckedFirst b0) : TwoByteFirst b0 := by
  rcases h with h | h
  · exact .inr (.inl ⟨h.1, h.2.trans (by decide)⟩)
  · exact .inr (.inr (.inl h))

theorem twoByteFirst_of_malformed (h : Malformed b0 b1) : TwoByteFirst b0 := by
  rcases h with ⟨rfl, -⟩ | ⟨checked, -⟩
  · exact .inl rfl
  · exact twoByteFirst_of_checkedFirst checked

theorem not_checkedFirst_of_illegalFirst (h : IllegalFirst b0) : ¬CheckedFirst b0 := by
  rcases h with rfl | rfl <;> decide

/-- A one-byte instruction that its first byte selects. -/
theorem accounts_oneByte (hw : i.wellFormed c = true) (he : encode c i = [b0]) (hl : i.length = 1)
    (one : ¬TwoByteFirst b0) (legal : ¬IllegalFirst b0) (known : ¬Lost c b0) : Accounts c b0 b1 (.ok i) :=
  ⟨hw, by rw [he, if_pos hl], by rw [hl, if_neg one], legal, known, fun h => one (twoByteFirst_of_malformed h)⟩

/-- A two-byte instruction that its bytes select. -/
theorem accounts_twoBytes (hw : i.wellFormed c = true) (he : encode c i = [b0, b1]) (hl : i.length = 2)
    (two : TwoByteFirst b0) (legal : ¬IllegalFirst b0) (known : ¬Lost c b0) (formed : ¬Malformed b0 b1) :
    Accounts c b0 b1 (.ok i) :=
  ⟨hw, by rw [he, hl]; rfl, by rw [hl, if_pos two], legal, known, formed⟩

/-- An instruction whose second byte is checked. -/
theorem accounts_checked (hw : i.wellFormed c = true) (he : hiNibble b1 = 0 → encode c i = [b0, b1]) (hl : i.length = 2)
    (checked : CheckedFirst b0) (known : ¬Lost c b0) : Accounts c b0 b1 ((Decoded.ok i).checked b0 b1) := by
  have two := twoByteFirst_of_checkedFirst checked
  have legal : ¬IllegalFirst b0 := fun h => not_checkedFirst_of_illegalFirst h checked
  by_cases h : hiNibble b1 = 0
  · rw [checked_ok h]
    refine accounts_twoBytes hw (he h) hl two legal known ?_
    rintro (⟨rfl, -⟩ | ⟨-, hb⟩)
    · exact absurd checked (by decide)
    · exact absurd ((hiNibble_eq_zero_iff b1).1 h) (Nat.not_lt.2 hb)
  · have hb : 16 ≤ b1.toNat := Nat.not_lt.1 fun hb => h ((hiNibble_eq_zero_iff b1).2 hb)
    rw [checked_malformed hb]
    exact ⟨rfl, rfl, known, .inr ⟨checked, hb⟩⟩

theorem accounts_sourced (hs : i.unsourced = false := by rfl) (he : encode c i = [b0] := by rfl)
    (hl : i.length = 1 := by rfl) (hb : ¬TwoByteFirst b0 ∧ ¬IllegalFirst b0 ∧ ¬UnsourcedFirst b0 := by decide) :
    Accounts c b0 b1 (.ok i) := by
  obtain ⟨one, legal, sourced⟩ := hb
  exact accounts_oneByte (wellFormed_of_sourced hs) he hl one legal fun lost => sourced lost.2

/-- An encoding the source has lost: refused, or the instruction as if it were sourced. -/
theorem accounts_ifAdmitted (hs : i.unsourced = true) (hb : UnsourcedFirst b0)
    (h : i.wellFormed c = true → ¬Lost c b0 → Accounts c b0 b1 (.ok i)) : Accounts c b0 b1 (ifAdmitted c i) := by
  cases hc : c.admitUnsourced with
  | true =>
    rw [ifAdmitted_of_admitted hc]
    exact h (wellFormed_of_admitted hc) (by simp [Lost, hc])
  | false =>
    rw [ifAdmitted_of_not_admitted hc]
    exact ⟨hs, hc, hb⟩

theorem accounts_admitted (hs : i.unsourced = true := by rfl) (he : encode c i = [b0] := by rfl)
    (hl : i.length = 1 := by rfl) (hb : ¬TwoByteFirst b0 ∧ ¬IllegalFirst b0 ∧ UnsourcedFirst b0 := by decide) :
    Accounts c b0 b1 (ifAdmitted c i) := by
  obtain ⟨one, legal, unsourced⟩ := hb
  exact accounts_ifAdmitted hs unsourced fun hw known => accounts_oneByte hw he hl one legal known

theorem accounts_illegal (hb : IllegalFirst b0 := by decide) : Accounts c b0 b1 (.bad (.illegalFirst b0)) :=
  ⟨rfl, hb⟩

theorem accounts_halt : Accounts c 0x37 b1 (if b1 = 0x3E then .ok .halt else .bad (.malformedSecond 0x37 b1)) := by
  have sourced : ¬UnsourcedFirst 0x37 := by decide
  by_cases h : b1 = 0x3E
  · rw [if_pos h]
    have formed : ¬Malformed 0x37 b1 := fun malformed => malformed.elim (fun m => m.2 h) fun m => absurd m.1 (by decide)
    exact accounts_twoBytes (wellFormed_of_sourced rfl) (by rw [h]; rfl) rfl (.inl rfl) (by decide)
      (fun lost => sourced lost.2) formed
  · rw [if_neg h]
    exact ⟨rfl, rfl, fun lost => sourced lost.2, .inl ⟨rfl, h⟩⟩

theorem zeroNibble_append_loNibble (h : hiNibble b1 = 0) : zeroNibble ++ loNibble b1 = b1 := by
  rw [show zeroNibble = hiNibble b1 from h.symm, hiNibble_append_loNibble]

theorem accounts_imm4 (he : encode c i = [b0, zeroNibble ++ loNibble b1]) (hs : i.unsourced = false := by rfl)
    (hl : i.length = 2 := by rfl) (hb : CheckedFirst b0 ∧ ¬UnsourcedFirst b0 := by decide) :
    Accounts c b0 b1 ((Decoded.ok i).checked b0 b1) :=
  accounts_checked (wellFormed_of_sourced hs) (fun h => by rw [he, zeroNibble_append_loNibble h]) hl hb.1
    fun lost => hb.2 lost.2

theorem accounts_imm4_admitted (he : encode c i = [b0, zeroNibble ++ loNibble b1]) (hs : i.unsourced = true := by rfl)
    (hl : i.length = 2 := by rfl) (hb : CheckedFirst b0 ∧ UnsourcedFirst b0 := by decide) :
    Accounts c b0 b1 ((ifAdmitted c i).checked b0 b1) := by
  cases h : c.admitUnsourced with
  | true =>
    rw [ifAdmitted_of_admitted h]
    exact accounts_checked (wellFormed_of_admitted h) (fun h => by rw [he, zeroNibble_append_loNibble h]) hl hb.1
      (by simp [Lost, h])
  | false =>
    rw [ifAdmitted_of_not_admitted h]
    exact ⟨hs, h, hb.2⟩

theorem accounts_timerImm : Accounts c 0x47 b1 (ifAdmitted c (.timerImm b1)) :=
  accounts_ifAdmitted rfl (by decide) fun hw known => accounts_twoBytes hw rfl rfl (by decide) (by decide) known
    fun malformed => malformed.elim (fun m => absurd m.1 (by decide)) fun m => absurd m.1 (by decide)

end

/-! The rows whose first byte carries a part of the operand. -/

section
variable {c : Config} {hi lo : Nibble} {b1 : Byte} {i : Instr}

theorem byte_toNat (hi lo : Nibble) : (hi ++ lo).toNat = 16 * hi.toNat + lo.toNat := append_toNat hi lo

/-- From 50H on the first bytes are sourced and legal. -/
theorem legal_and_known (c : Config) (lo : Nibble) (h : 5 ≤ hi.toNat) : ¬IllegalFirst (hi ++ lo) ∧ ¬Lost c (hi ++ lo) := by
  have above : ∀ b : Byte, 0x50 ≤ b.toNat → ¬IllegalFirst b ∧ ¬UnsourcedFirst b := by decide
  obtain ⟨legal, sourced⟩ := above (hi ++ lo) (by rw [byte_toNat]; omega)
  exact ⟨legal, fun lost => sourced lost.2⟩

/-- From 80H on nothing is asked of the second byte (R67, R68). -/
theorem accounts_high (h : 8 ≤ hi.toNat) (he : encode c i = [hi ++ lo, b1]) (hs : i.unsourced = false)
    (hl : i.length = 2) : Accounts c (hi ++ lo) b1 (.ok i) := by
  obtain ⟨legal, known⟩ := legal_and_known c lo (Nat.le_trans (by decide) h)
  have value := byte_toNat hi lo
  have two : 0x80 ≤ (hi ++ lo).toNat := by omega
  refine accounts_twoBytes (wellFormed_of_sourced hs) he hl (.inr (.inr (.inr two))) legal known ?_
  rintro (⟨hb, -⟩ | ⟨checked, -⟩)
  · rw [hb] at two
    exact absurd two (by decide)
  · unfold CheckedFirst at checked
    omega

theorem accounts_movAImm : Accounts c (7#4 ++ lo) b1 (.ok (.movAImm lo)) := by
  obtain ⟨legal, known⟩ := legal_and_known (hi := 7) c lo (by decide)
  refine accounts_oneByte (wellFormed_of_sourced rfl) rfl rfl ?_ legal known
  have value : (7#4 ++ lo).toNat = 16 * 7 + lo.toNat := byte_toNat 7 lo
  unfold TwoByteFirst
  omega

theorem accounts_pair (hhi : hi = 5 ∨ hi = 6) (he : encode c i = pairBytes c hi (pairImm c (hi ++ lo) b1))
    (hs : i.unsourced = false := by rfl) (hl : i.length = 2 := by rfl) :
    Accounts c (hi ++ lo) b1 ((Decoded.ok i).checked (hi ++ lo) b1) := by
  have value := byte_toNat hi lo
  have range : hi.toNat = 5 ∨ hi.toNat = 6 := hhi.imp (congrArg BitVec.toNat) (congrArg BitVec.toNat)
  obtain ⟨-, known⟩ := legal_and_known c lo (show 5 ≤ hi.toNat by omega)
  refine accounts_checked (wellFormed_of_sourced hs) (fun h => ?bytes) hl (.inr (by omega)) known
  rw [he, pairBytes, pairImm]
  cases c.pairOrder <;> simp only [hiNibble_append, loNibble_append, zeroNibble_append_loNibble h]

/-- The twelve conditional jumps (R68, R69): the opcode is bits 7:3 of the first byte. -/
theorem accounts_addr11 {k : Nat} (hhi : 8 ≤ hi.toNat) (hop : ((hi ++ lo).extractLsb' 3 5).toNat = k)
    (he : encode c i = addr11Bytes (BitVec.ofNat 5 k) (addr11Of (hi ++ lo) b1)) (hs : i.unsourced = false := by rfl)
    (hl : i.length = 2 := by rfl) : Accounts c (hi ++ lo) b1 (.ok i) := by
  refine accounts_high hhi (he.trans ?_) hs hl
  have parts := high_append_low (v := 5) (w := 3) (hi ++ lo)
  rw [addr11Bytes, addr11Of, low_append _ b1, high_append _ b1, ← hop, BitVec.ofNat_toNat, BitVec.setWidth_eq, parts]

theorem accounts_jump (hhi : 8 ≤ hi.toNat ∧ hi.toNat < 14 := by decide) :
    Accounts c (hi ++ lo) b1 (.ok (decodeJump (hi ++ lo) b1)) := by
  obtain ⟨k, hop⟩ : ∃ k, ((hi ++ lo).extractLsb' 3 5).toNat = k := ⟨_, rfl⟩
  have value : (16 * hi.toNat + lo.toNat) / 2 ^ 3 % 2 ^ 5 = k := by
    rw [← byte_toNat, ← hop, BitVec.extractLsb'_toNat, Nat.shiftRight_eq_div_pow]
  have hlo := lo.isLt
  have hk : 16 ≤ k ∧ k < 28 := by omega
  obtain ⟨h16, h28⟩ := hk
  clear value
  interval_cases k <;> (rw [decodeJump, hop]; exact accounts_addr11 hhi.1 hop rfl)

theorem accounts_addr12 (hhi : 8 ≤ hi.toNat) (he : encode c i = addr12Bytes hi (addr12Of (hi ++ lo) b1))
    (hs : i.unsourced = false := by rfl) (hl : i.length = 2 := by rfl) : Accounts c (hi ++ lo) b1 (.ok i) := by
  refine accounts_high hhi (he.trans ?_) hs hl
  rw [addr12Bytes, addr12Of, loNibble_append, low_append lo b1, high_append lo b1]

end

/-! The table, row by row. -/

/-- A fact about every nibble, from the sixteen. -/
theorem forall_nibble {P : Nibble → Prop} (h0 : P 0) (h1 : P 1) (h2 : P 2) (h3 : P 3) (h4 : P 4) (h5 : P 5) (h6 : P 6)
    (h7 : P 7) (h8 : P 8) (h9 : P 9) (hA : P 10) (hB : P 11) (hC : P 12) (hD : P 13) (hE : P 14) (hF : P 15) (n : Nibble) :
    P n := by
  obtain ⟨⟨k, hk⟩⟩ := n
  interval_cases k <;> assumption

theorem accounts_row0 (c : Config) (b1 : Byte) : ∀ lo : Nibble, Accounts c (0#4 ++ lo) b1 (decodeRow0 c lo) :=
  forall_nibble
    accounts_sourced accounts_sourced accounts_sourced accounts_sourced accounts_sourced accounts_sourced
    accounts_sourced accounts_sourced accounts_sourced accounts_sourced accounts_sourced accounts_admitted
    accounts_sourced accounts_sourced accounts_sourced accounts_sourced

theorem accounts_row1 (c : Config) (b1 : Byte) : ∀ lo : Nibble, Accounts c (1#4 ++ lo) b1 (decodeRow1 c lo) :=
  forall_nibble
    accounts_sourced accounts_sourced accounts_sourced accounts_sourced accounts_sourced accounts_sourced
    accounts_sourced accounts_sourced accounts_sourced accounts_sourced accounts_sourced accounts_admitted
    accounts_sourced accounts_sourced accounts_admitted accounts_sourced

theorem accounts_row2 (c : Config) (b1 : Byte) : ∀ lo : Nibble, Accounts c (2#4 ++ lo) b1 (decodeRow2 c lo) :=
  forall_nibble
    accounts_sourced accounts_sourced accounts_sourced accounts_sourced accounts_sourced accounts_sourced
    accounts_sourced accounts_sourced accounts_sourced accounts_sourced accounts_sourced accounts_admitted
    accounts_sourced accounts_sourced accounts_sourced accounts_sourced

theorem accounts_row3 (c : Config) (b1 : Byte) : ∀ lo : Nibble, Accounts c (3#4 ++ lo) b1 (decodeRow3 c (3#4 ++ lo) b1) :=
  forall_nibble
    accounts_sourced accounts_sourced accounts_illegal accounts_sourced accounts_sourced accounts_illegal
    accounts_sourced accounts_halt accounts_admitted accounts_admitted accounts_sourced accounts_sourced
    accounts_sourced accounts_sourced accounts_sourced accounts_sourced

theorem accounts_row4 (c : Config) (b1 : Byte) : ∀ lo : Nibble, Accounts c (4#4 ++ lo) b1 (decodeRow4 c (4#4 ++ lo) b1) :=
  forall_nibble
    (accounts_imm4 rfl) (accounts_imm4_admitted rfl) (accounts_imm4 rfl) (accounts_imm4_admitted rfl)
    (accounts_imm4 rfl) (accounts_imm4_admitted rfl) (accounts_imm4 rfl) accounts_timerImm accounts_admitted
    accounts_admitted accounts_admitted accounts_sourced accounts_sourced accounts_sourced accounts_sourced
    accounts_sourced

/-- Every outcome of the decoder is accounted for. -/
theorem accounts_decode (c : Config) (b0 b1 : Byte) : Accounts c b0 b1 (decode c b0 b1) := by
  have rows : ∀ hi lo : Nibble, Accounts c (hi ++ lo) b1 (decode c (hi ++ lo) b1) := by
    intro hi lo
    rw [decode, hiNibble_append, loNibble_append]
    revert hi
    exact forall_nibble (accounts_row0 c b1 lo) (accounts_row1 c b1 lo) (accounts_row2 c b1 lo) (accounts_row3 c b1 lo)
      (accounts_row4 c b1 lo) (accounts_pair (.inl rfl) rfl) (accounts_pair (.inr rfl) rfl) accounts_movAImm
      accounts_jump accounts_jump accounts_jump accounts_jump accounts_jump accounts_jump
      (accounts_addr12 (by decide) rfl) (accounts_addr12 (by decide) rfl)
  have whole := rows (hiNibble b0) (loNibble b0)
  rwa [hiNibble_append_loNibble] at whole

/-- What an answered instruction tells of the bytes. -/
theorem accounts_of_decode_ok {c : Config} {b0 b1 : Byte} {i : Instr} (h : decode c b0 b1 = .ok i) :
    Accounts c b0 b1 (.ok i) :=
  h ▸ accounts_decode c b0 b1

/-- Settles O2: the account of an answered instruction holds both facts. -/
theorem encodeInvertsDecode : Obligations.EncodeInvertsDecode := by
  intro c b0 b1 i h
  obtain ⟨wellFormed, bytes, -⟩ := accounts_of_decode_ok h
  exact ⟨wellFormed, bytes⟩

/-- Settles O3: the account gives the length as a function of the first byte. -/
theorem firstByteDecidesLength : Obligations.FirstByteDecidesLength := by
  intro c b0 b1 i h
  obtain ⟨-, -, length, -⟩ := accounts_of_decode_ok h
  rw [length]
  by_cases two : TwoByteFirst b0
  · rw [if_pos two]
    exact ⟨.inr rfl, iff_of_true rfl two⟩
  · rw [if_neg two]
    exact ⟨.inl rfl, iff_of_false (by decide) two⟩

/-- The illegal first bytes are neither lost nor ones whose second byte is looked at. -/
theorem sourced_and_formed_of_illegalFirst {b0 : Byte} (h : IllegalFirst b0) (b1 : Byte) :
    ¬UnsourcedFirst b0 ∧ ¬Malformed b0 b1 := by
  have facts : ¬UnsourcedFirst b0 ∧ ¬TwoByteFirst b0 := by rcases h with rfl | rfl <;> decide
  exact ⟨facts.1, fun malformed => facts.2 (twoByteFirst_of_malformed malformed)⟩

/-- Settles O4: the account names the kind of each outcome, and the kinds exclude each other. -/
theorem decodeRefusesExactlyUndefinedBytes : Obligations.DecodeRefusesExactlyUndefinedBytes := by
  intro c b0 b1 lost malformed
  have account := accounts_decode c b0 b1
  cases hd : decode c b0 b1 with
  | ok i =>
    rw [hd] at account
    obtain ⟨-, -, -, legal, known, formed⟩ := account
    exact ⟨fun h => absurd h legal, fun h => absurd h known, fun _ h => absurd h formed, fun _ _ _ => ⟨i, rfl⟩⟩
  | bad e =>
    rw [hd] at account
    cases e with
    | illegalFirst b =>
      obtain ⟨rfl, illegal⟩ := account
      obtain ⟨sourced, formed⟩ := sourced_and_formed_of_illegalFirst illegal b1
      exact ⟨fun _ => rfl, fun h => absurd h.2 sourced, fun _ h => absurd h formed, fun h => absurd illegal h⟩
    | unsourced i =>
      obtain ⟨hs, isLost⟩ := account
      exact ⟨fun h => absurd isLost.2 (sourced_and_formed_of_illegalFirst h b1).1, fun _ => ⟨i, hs, rfl⟩,
        fun h => absurd isLost h, fun _ h => absurd isLost h⟩
    | malformedSecond b b' =>
      obtain ⟨rfl, rfl, known, isMalformed⟩ := account
      exact ⟨fun h => absurd isMalformed (sourced_and_formed_of_illegalFirst h b').2, fun h => absurd h known,
        fun _ _ => rfl, fun _ _ h => absurd isMalformed h⟩

end Sys2Proof.Proofs
end

section
/-! PROOFS. The arithmetic and logic instructions (spec/40_arithmetic.md R100 to R107, spec/41_logic.md R110 to R119): each is a
write of ACC, of ACC and CF, or of the addressed location. -/

namespace Sys2Proof.Proofs

open Sys2Proof Sys2Proof.Machine

/-! The three kinds of instruction. -/

/-- An instruction that means "ACC takes `v`" changes ACC alone. -/
theorem completes_setAcc {i : Instr} {s : State} {v : Nibble} (h : exec i s = .next (s.setAcc v)) :
    Completes i s (s.setAcc v) [.acc] :=
  ⟨h, frame_setAcc s v⟩

/-- An instruction that means "the location the pair addresses takes `v`" changes that location alone, and it then holds `v`. -/
theorem completes_storePair {i : Instr} {s : State} {p : Pair} {v : Nibble} (h : exec i s = .next (s.storePair p v)) :
    Completes i s (s.storePair p v) [.ram (s.pairAddr p)] ∧ (s.storePair p v).load (s.pairAddr p) = v :=
  ⟨⟨h, frame_store s _ v⟩, State.load_store_same s _ v⟩

/-- The sum and its carry, written to ACC and CF (R107). -/
theorem holdsSum_addCarry (s : State) (a b : Nibble) (c : Bool) :
    HoldsSum (s.setAccCf (addCarry a b c)) (a.toNat + b.toNat + c.toNat) :=
  addCarry_spec a b c

/-- The difference and its no-borrow, written to ACC and CF (R103, R107): a carry of 0 is one more to subtract. -/
theorem holdsDifference_subCarry (s : State) (a b : Nibble) (c : Bool) :
    HoldsDifference (s.setAccCf (subCarry a b c)) a.toNat (b.toNat + (1 - c.toNat)) := by
  obtain ⟨difference, noBorrow⟩ := subCarry_spec a b c
  have hb := b.isLt
  cases c with
  | false => exact ⟨difference.trans (congrArg (· % 16) (by simp only [Bool.toNat_false]; omega)), noBorrow⟩
  | true => exact ⟨difference.trans (congrArg (· % 16) (by simp only [Bool.toNat_true]; omega)), noBorrow⟩

/-! What the arithmetic instructions mean (R100 to R106). -/

theorem exec_addAM10 (s : State) : exec .addAM10 s = .next (s.setAccCf (addCarry s.acc (s.loadPair .p10) false)) := rfl

theorem exec_adcAM10 (s : State) : exec .adcAM10 s = .next (s.setAccCf (addCarry s.acc (s.loadPair .p10) s.cf)) := rfl

theorem exec_addAImm (s : State) (d : Nibble) : exec (.addAImm d) s = .next (s.setAccCf (addCarry s.acc d false)) := rfl

theorem exec_subAM10 (s : State) : exec .subAM10 s = .next (s.setAccCf (subCarry s.acc (s.loadPair .p10) true)) := rfl

theorem exec_sbcAM10 (s : State) : exec .sbcAM10 s = .next (s.setAccCf (subCarry s.acc (s.loadPair .p10) s.cf)) := rfl

theorem exec_subAImm (s : State) (d : Nibble) : exec (.subAImm d) s = .next (s.setAccCf (subCarry s.acc d true)) := rfl

theorem exec_daa (s : State) : exec .daa s = .next (s.setAccCf (decimalAdjust s.acc s.cf)) := rfl

/-- Settles O28: the three additions are `addCarry` with no carry or with CF coming in. -/
theorem additionsWriteSumAndCarry : Obligations.AdditionsWriteSumAndCarry := by
  refine ⟨fun _ _ => rfl, fun _ _ => rfl, imm4Form_addAImm, fun s => ⟨?add, ?adc, fun d => ?addImm⟩⟩
  case add => exact ⟨_, completes_of_setAccCf (exec_addAM10 s), holdsSum_addCarry s _ _ false⟩
  case adc => exact ⟨_, completes_of_setAccCf (exec_adcAM10 s), holdsSum_addCarry s _ _ s.cf⟩
  case addImm => exact ⟨_, completes_of_setAccCf (exec_addAImm s d), holdsSum_addCarry s _ d false⟩

/-- Settles O29: the subtraction with CF as no-borrow coming in. -/
theorem subtractWithBorrowWritesDifference : Obligations.SubtractWithBorrowWritesDifference :=
  ⟨fun _ _ => rfl, fun s => ⟨_, completes_of_setAccCf (exec_sbcAM10 s), holdsDifference_subCarry s _ _ s.cf⟩⟩

/-- Settles O30: the subtraction with no borrow coming in. -/
theorem subtractionsWithoutBorrowInput : Obligations.SubtractionsWithoutBorrowInput := by
  refine ⟨oneByteAdmitted_of_decode fun _ _ => rfl, imm4Admitted_subAImm, fun s => ⟨?memory, fun d => ?imm⟩⟩
  case memory => exact ⟨_, completes_of_setAccCf (exec_subAM10 s), holdsDifference_subCarry s _ _ true⟩
  case imm => exact ⟨_, completes_of_setAccCf (exec_subAImm s d), holdsDifference_subCarry s _ d true⟩

/-- Settles O31: the adjusting branch of `decimalAdjust`, and the other. -/
theorem decimalAdjustAddsSix : Obligations.DecimalAdjustAddsSix := by
  refine ⟨fun _ _ => rfl, fun s => ⟨_, completes_of_setAccCf (exec_daa s), fun adjust => ?_, fun hacc hcf => ?_⟩⟩
  · rw [decimalAdjust_spec, if_pos adjust]
    exact ⟨BitVec.toNat_add s.acc 6, rfl⟩
  · have keep : ¬(9 < s.acc.toNat ∨ s.cf = true) := by simp [hcf, Nat.not_lt.2 hacc]
    rw [decimalAdjust_spec, if_neg keep]
    exact ⟨rfl, rfl⟩

/-! What the logic instructions mean (R110 to R118). -/

theorem exec_andAM10 (s : State) : exec .andAM10 s = .next (s.setAcc (s.acc &&& s.loadPair .p10)) := rfl

theorem exec_orAM10 (s : State) : exec .orAM10 s = .next (s.setAcc (s.acc ||| s.loadPair .p10)) := rfl

theorem exec_xorAM10 (s : State) : exec .xorAM10 s = .next (s.setAcc (s.acc ^^^ s.loadPair .p10)) := rfl

theorem exec_andAImm (s : State) (d : Nibble) : exec (.andAImm d) s = .next (s.setAcc (s.acc &&& d)) := rfl

theorem exec_orAImm (s : State) (d : Nibble) : exec (.orAImm d) s = .next (s.setAcc (s.acc ||| d)) := rfl

theorem exec_xorAImm (s : State) (d : Nibble) : exec (.xorAImm d) s = .next (s.setAcc (s.acc ^^^ d)) := rfl

theorem exec_andM10A (s : State) : exec .andM10A s = .next (s.storePair .p10 (s.loadPair .p10 &&& s.acc)) := rfl

theorem exec_orM10A (s : State) : exec .orM10A s = .next (s.storePair .p10 (s.loadPair .p10 ||| s.acc)) := rfl

theorem exec_xorM10A (s : State) : exec .xorM10A s = .next (s.storePair .p10 (s.loadPair .p10 ^^^ s.acc)) := rfl

/-- Settles O32: each form is a write of ACC with the bitwise result. -/
theorem andOrIntoAccumulator : Obligations.AndOrIntoAccumulator := by
  refine ⟨fun _ _ => rfl, fun _ _ => rfl, imm4Form_andAImm, imm4Form_orAImm, fun s => ⟨?and, ?or, fun d => ?andImm,
    fun d => ?orImm⟩⟩
  case and => exact ⟨_, completes_setAcc (exec_andAM10 s), fun _ => BitVec.getLsbD_and⟩
  case or => exact ⟨_, completes_setAcc (exec_orAM10 s), fun _ => BitVec.getLsbD_or⟩
  case andImm => exact ⟨_, completes_setAcc (exec_andAImm s d), fun _ => BitVec.getLsbD_and⟩
  case orImm => exact ⟨_, completes_setAcc (exec_orAImm s d), fun _ => BitVec.getLsbD_or⟩

/-- Settles O33: each form is a store of the bitwise result at the pair's address. -/
theorem andOrIntoMemory : Obligations.AndOrIntoMemory := by
  refine ⟨fun _ _ => rfl, fun _ _ => rfl, fun s => ⟨?and, ?or⟩⟩
  case and =>
    obtain ⟨completes, stored⟩ := completes_storePair (exec_andM10A s)
    exact ⟨_, completes, fun _ => by rw [stored]; exact BitVec.getLsbD_and⟩
  case or =>
    obtain ⟨completes, stored⟩ := completes_storePair (exec_orM10A s)
    exact ⟨_, completes, fun _ => by rw [stored]; exact BitVec.getLsbD_or⟩

/-- Settles O34: two writes of ACC and a store, with the exclusive-or. -/
theorem exclusiveOrForms : Obligations.ExclusiveOrForms := by
  refine ⟨oneByteAdmitted_of_decode fun _ _ => rfl, oneByteAdmitted_of_decode fun _ _ => rfl, imm4Admitted_xorAImm,
    fun s => ⟨?acc, ?memory, fun d => ?imm⟩⟩
  case acc => exact ⟨_, completes_setAcc (exec_xorAM10 s), fun _ => BitVec.getLsbD_xor⟩
  case memory =>
    obtain ⟨completes, stored⟩ := completes_storePair (exec_xorM10A s)
    exact ⟨_, completes, fun _ => by rw [stored]; exact BitVec.getLsbD_xor⟩
  case imm => exact ⟨_, completes_setAcc (exec_xorAImm s d), fun _ => BitVec.getLsbD_xor⟩

end Sys2Proof.Proofs
end

section
/-! PROOFS. The increments and decrements (spec/42_incdec.md R120 to R127), of ACC, of the working registers and of the
addressed location. -/

namespace Sys2Proof.Proofs

open Sys2Proof Sys2Proof.Machine

theorem nibble_add_one_toNat (v : Nibble) : (v + 1).toNat = (v.toNat + 1) % 16 := BitVec.toNat_add v 1

theorem nibble_sub_one_toNat (v : Nibble) : (v - 1).toNat = (v.toNat + 15) % 16 :=
  (BitVec.toNat_sub v 1).trans (congrArg (· % 16) (Nat.add_comm 15 v.toNat))

/-- An instruction that means "the register takes `v`" changes that register alone. -/
theorem completes_of_setReg {i : Instr} {s : State} {r : Reg} {v : Nibble} {n : Nat}
    (h : exec i s = .next (s.setReg r v)) (hv : v.toNat = n) : ∃ t, Completes i s t [.reg r] ∧ (t.reg r).toNat = n :=
  ⟨s.setReg r v, ⟨h, frame_setReg s r v⟩, by rw [State.setReg_reg_same, hv]⟩

/-- An instruction that means "the addressed location takes `v`" changes that location alone. -/
theorem completes_of_storePair {i : Instr} {s : State} {p : Pair} {v : Nibble} {n : Nat}
    (h : exec i s = .next (s.storePair p v)) (hv : v.toNat = n) :
    ∃ t, Completes i s t [.ram (s.pairAddr p)] ∧ (t.load (s.pairAddr p)).toNat = n := by
  obtain ⟨completes, stored⟩ := completes_storePair h
  exact ⟨_, completes, by rw [stored, hv]⟩

theorem exec_incA (s : State) : exec .incA s = .next (s.setAcc (s.acc + 1)) := rfl

theorem exec_decA (s : State) : exec .decA s = .next (s.setAcc (s.acc - 1)) := rfl

/-! The instructions `INC Rn` and `DEC Rn` and their bytes as functions of the register, and `INC` and `DEC` of memory as
functions of the pair. -/

/-- `INC Rn` (R121). -/
def incInstr : Reg → Instr
  | .r0 => .incR0
  | .r1 => .incR1
  | .r2 => .incR2
  | .r3 => .incR3
  | .r4 => .incR4

/-- `DEC Rn` (R125). -/
def decInstr : Reg → Instr
  | .r0 => .decR0
  | .r1 => .decR1
  | .r2 => .decR2
  | .r3 => .decR3
  | .r4 => .decR4

/-- The byte of `INC Rn` (R121). -/
def incByte : Reg → Byte
  | .r0 => 0x10
  | .r1 => 0x12
  | .r2 => 0x14
  | .r3 => 0x16
  | .r4 => 0x18

/-- The byte of `DEC Rn` (R125). -/
def decByte : Reg → Byte
  | .r0 => 0x11
  | .r1 => 0x13
  | .r2 => 0x15
  | .r3 => 0x17
  | .r4 => 0x19

theorem oneByte_incInstr (r : Reg) : OneByte (incByte r) (incInstr r) := by
  cases r <;> exact fun _ _ => rfl

theorem oneByte_decInstr (r : Reg) : OneByte (decByte r) (decInstr r) := by
  cases r <;> exact fun _ _ => rfl

theorem exec_incInstr (s : State) (r : Reg) : exec (incInstr r) s = .next (s.setReg r (s.reg r + 1)) := by
  cases r <;> rfl

theorem exec_decInstr (s : State) (r : Reg) : exec (decInstr r) s = .next (s.setReg r (s.reg r - 1)) := by
  cases r <;> rfl

/-- Settles O35: ACC by itself, and the obligation's list is the five registers, each with its instructions and bytes. -/
theorem incrementDecrementRegisters : Obligations.IncrementDecrementRegisters := by
  refine ⟨fun _ _ => rfl, fun _ _ => rfl, fun s => ⟨?inc, ?dec⟩, ?registers⟩
  case inc => exact completes_of_setAcc (exec_incA s) (nibble_add_one_toNat s.acc)
  case dec => exact completes_of_setAcc (exec_decA s) (nibble_sub_one_toNat s.acc)
  case registers =>
    change ∀ x ∈ [Reg.r0, .r1, .r2, .r3, .r4].map fun r => (r, incInstr r, decInstr r, incByte r, decByte r), _
    exact List.forall_mem_map.2 fun r _ => ⟨oneByte_incInstr r, oneByte_decInstr r, fun s =>
      ⟨completes_of_setReg (exec_incInstr s r) (nibble_add_one_toNat _),
        completes_of_setReg (exec_decInstr s r) (nibble_sub_one_toNat _)⟩⟩

theorem exec_incM10 (s : State) : exec .incM10 s = .next (s.storePair .p10 (s.loadPair .p10 + 1)) := rfl

theorem exec_decM10 (s : State) : exec .decM10 s = .next (s.storePair .p10 (s.loadPair .p10 - 1)) := rfl

theorem exec_incM32 (s : State) : exec .incM32 s = .next (s.storePair .p32 (s.loadPair .p32 + 1)) := rfl

theorem exec_decM32 (s : State) : exec .decM32 s = .next (s.storePair .p32 (s.loadPair .p32 - 1)) := rfl

/-- Settles O36: each instruction is a store at its pair's address. -/
theorem incrementDecrementMemory : Obligations.IncrementDecrementMemory := by
  refine List.forall_mem_cons.2 ⟨?pair10, List.forall_mem_singleton.2 ?pair32⟩
  case pair10 =>
    exact ⟨fun _ _ => rfl, fun _ _ => rfl, fun s => ⟨completes_of_storePair (exec_incM10 s) (nibble_add_one_toNat _),
      completes_of_storePair (exec_decM10 s) (nibble_sub_one_toNat _)⟩⟩
  case pair32 =>
    exact ⟨fun _ _ => rfl, fun _ _ => rfl, fun s => ⟨completes_of_storePair (exec_incM32 s) (nibble_add_one_toNat _),
      completes_of_storePair (exec_decM32 s) (nibble_sub_one_toNat _)⟩⟩

end Sys2Proof.Proofs
end

section
/-! PROOFS. The rules of frames, and the frames of the state's remaining writes. -/

namespace Sys2Proof.Proofs

open Sys2Proof Sys2Proof.Machine

theorem same_trans {s t u : State} {p : Piece} (h : p.Same s t) (h' : p.Same t u) : p.Same s u := by
  cases p <;> exact Eq.trans h' h

/-- One write after another leaves what both leave. -/
theorem frame_comp {a b : List Piece} {s t u : State} (h : Frame a s t) (h' : Frame b t u) : Frame (a ++ b) s u := by
  intro p hp
  rw [List.mem_append, not_or] at hp
  exact same_trans (h p hp.1) (h' p hp.2)

theorem frame_mono {a b : List Piece} {s t : State} (h : Frame a s t) (hab : a ⊆ b) : Frame b s t :=
  fun p hp => h p fun ha => hp (hab ha)

theorem frame_refl (a : List Piece) (s : State) : Frame a s s := by
  intro p _
  cases p <;> rfl

theorem frame_of_singleton {q : Piece} {s t : State} (h : ∀ p, p ≠ q → p.Same s t) : Frame [q] s t :=
  fun p hp => h p fun hq => hp (List.mem_singleton.2 hq)

section
variable (s : State)

theorem frame_setPc (a : CodeAddr) : Frame [.pc] s (s.setPc a) := frame_of_singleton fun p hp => by
  cases p with
  | pc => exact absurd rfl hp
  | reg r => exact State.setPc_reg s r a
  | _ => rfl

theorem frame_setTimer (v : Byte) : Frame [.timer] s (s.setTimer v) := frame_of_singleton fun p hp => by
  cases p with
  | timer => exact absurd rfl hp
  | reg r => exact State.setTimer_reg s r v
  | _ => rfl

theorem frame_drawn : Frame [.free] s s.drawn := frame_of_singleton fun p hp => by
  cases p with
  | free => exact absurd rfl hp
  | reg r => exact State.drawn_reg s r
  | _ => rfl

theorem frame_pa (v : Nibble) : Frame [.pa] s { s with pa := v } := frame_of_singleton fun p hp => by
  cases p with
  | pa => exact absurd rfl hp
  | reg r => cases r <;> rfl
  | _ => rfl

theorem frame_ie (b : Bool) : Frame [.ie] s { s with ie := b } := frame_of_singleton fun p hp => by
  cases p with
  | ie => exact absurd rfl hp
  | reg r => cases r <;> rfl
  | _ => rfl

theorem frame_tf (b : Bool) : Frame [.tf] s { s with tf := b } := frame_of_singleton fun p hp => by
  cases p with
  | tf => exact absurd rfl hp
  | reg r => cases r <;> rfl
  | _ => rfl

theorem frame_ton (b : Bool) : Frame [.ton] s { s with ton := b } := frame_of_singleton fun p hp => by
  cases p with
  | ton => exact absurd rfl hp
  | reg r => cases r <;> rfl
  | _ => rfl

theorem frame_halted (b : Bool) : Frame [.halted] s { s with halted := b } := frame_of_singleton fun p hp => by
  cases p with
  | halted => exact absurd rfl hp
  | reg r => cases r <;> rfl
  | _ => rfl

theorem frame_sndOn (b : Bool) : Frame [.sndOn] s { s with sndOn := b } := frame_of_singleton fun p hp => by
  cases p with
  | sndOn => exact absurd rfl hp
  | reg r => cases r <;> rfl
  | _ => rfl

theorem frame_sndLoop (b : Bool) : Frame [.sndLoop] s { s with sndLoop := b } := frame_of_singleton fun p hp => by
  cases p with
  | sndLoop => exact absurd rfl hp
  | reg r => cases r <;> rfl
  | _ => rfl

theorem frame_rtcl (b : Bool) : Frame [.rtcl] s { s with rtcl := b } := frame_of_singleton fun p hp => by
  cases p with
  | rtcl => exact absurd rfl hp
  | reg r => cases r <;> rfl
  | _ => rfl

theorem frame_schedule (moves : List Move) : Frame [.schedule] s { s with schedule := moves } :=
  frame_of_singleton fun p hp => by
    cases p with
    | schedule => exact absurd rfl hp
    | reg r => cases r <;> rfl
    | _ => rfl

/-- CALL's use of the stack (R170). -/
theorem frame_pushCall : Frame [.stackPc, .sub, .stackByCall] s s.pushCall := by
  intro p hp
  cases p with
  | stackPc | sub | stackByCall => simp at hp
  | reg r => exact State.pushCall_reg s r
  | _ => rfl

/-- The return from the stack (R219). -/
theorem frame_returnFromStack : Frame [.pc, .sub] s s.returnFromStack := by
  intro p hp
  cases p with
  | pc | sub => simp at hp
  | reg r => exact State.returnFromStack_reg s r
  | _ => rfl

/-- The carry that RETI brings back (R172). -/
theorem frame_restoreCarry : Frame [.cf, .free] s s.restoreCarry := by
  cases h : s.stackByCall with
  | true =>
    rw [restoreCarry_call s h]
    exact frame_comp (frame_setCf s _) (frame_drawn _)
  | false =>
    rw [restoreCarry_interrupt s h]
    exact frame_mono (frame_setCf s _) (by simp)

theorem frame_jumpIf (cond : Bool) (addr : JumpAddr) : Frame [.pc] s (s.jumpIf cond addr) := by
  rw [jumpIf_eq]
  exact frame_setPc s _

theorem frame_setPair_p10 (d : Byte) : Frame [.reg .r1, .reg .r0] s (s.setPair .p10 d) :=
  frame_comp (frame_setReg s .r1 _) (frame_setReg _ .r0 _)

theorem frame_setPair_p32 (d : Byte) : Frame [.reg .r3, .reg .r2] s (s.setPair .p32 d) :=
  frame_comp (frame_setReg s .r3 _) (frame_setReg _ .r2 _)

theorem frame_readPort (p : Port) : Frame [.acc, .free] s (s.readPort p) :=
  frame_comp (frame_setAcc s _) (frame_drawn _)

theorem frame_readToR4 (b : Byte) : Frame [.acc, .reg .r4] s (s.readToR4 b) :=
  frame_mono (frame_comp (frame_setReg s .r4 _) (frame_setAcc _ _)) (by simp)

theorem frame_readToMemory (b : Byte) : Frame [.acc, .ram (s.pairAddr .p10)] s (s.readToMemory b) :=
  frame_mono (frame_comp (frame_store s _ _) (frame_setAcc _ _)) (by simp)

end

end Sys2Proof.Proofs
end

section
/-! PROOFS. The immediate moves, the table reads and the timer loads (spec/43_datamove.md R136 to R139,
spec/48_timer_tableread.md R185 to R191). -/

namespace Sys2Proof.Proofs

open Sys2Proof Sys2Proof.Machine

/-- A byte is its nibbles, as numbers. -/
theorem nibbles_sum (b : Byte) : 16 * (hiNibble b).toNat + (loNibble b).toNat = b.toNat := by
  rw [(nibbles_toNat b).1, (nibbles_toNat b).2]
  exact Nat.div_add_mod b.toNat 16

theorem exec_movAImm (s : State) (d : Nibble) : exec (.movAImm d) s = .next (s.setAcc d) := rfl

theorem exec_movR4Imm (s : State) (d : Nibble) : exec (.movR4Imm d) s = .next (s.setReg .r4 d) := rfl

theorem exec_movR1R0Imm (s : State) (d : Byte) : exec (.movR1R0Imm d) s = .next (s.setPair .p10 d) := rfl

theorem exec_movR3R2Imm (s : State) (d : Byte) : exec (.movR3R2Imm d) s = .next (s.setPair .p32 d) := rfl

/-- Settles O39: a write of ACC and a write of R4. -/
theorem movesOfNibbleImmediates : Obligations.MovesOfNibbleImmediates := by
  refine ⟨decode_movAImm, imm4Form_movR4Imm, fun s d => ⟨?acc, ?r4⟩⟩
  case acc => exact ⟨_, completes_setAcc (exec_movAImm s d), State.setAcc_acc s d⟩
  case r4 => exact ⟨_, ⟨exec_movR4Imm s d, frame_setReg s .r4 d⟩, State.setReg_r4 s d⟩

/-- Settles O40: the format's two nibble orders and its check, and the writes of the two pairs. -/
theorem movesOfPairImmediates : Obligations.MovesOfPairImmediates := by
  refine ⟨fun c d0 d1 h => ⟨?low1, ?low3⟩, fun c d0 d1 h => ⟨?high1, ?high3⟩, fun c d0 b1 h => ⟨?bad1, ?bad3⟩,
    fun s d => ⟨?pair10, ?pair32⟩⟩
  case low1 => exact pairForm_movR1R0Imm.decode_lowFirst h d0 d1
  case low3 => exact pairForm_movR3R2Imm.decode_lowFirst h d0 d1
  case high1 => exact pairForm_movR1R0Imm.decode_highFirst h d0 d1
  case high3 => exact pairForm_movR3R2Imm.decode_highFirst h d0 d1
  case bad1 => exact pairForm_movR1R0Imm.decode_malformed c d0 h
  case bad3 => exact pairForm_movR3R2Imm.decode_malformed c d0 h
  case pair10 => exact ⟨_, ⟨exec_movR1R0Imm s d, frame_setPair_p10 s d⟩, nibbles_sum d⟩
  case pair32 => exact ⟨_, ⟨exec_movR3R2Imm s d, frame_setPair_p32 s d⟩, nibbles_sum d⟩

theorem exec_movTmrlA (s : State) : exec .movTmrlA s = .next (s.setTimer (s.timerHigh ++ s.acc)) := rfl

theorem exec_movTmrhA (s : State) : exec .movTmrhA s = .next (s.setTimer (s.acc ++ s.timerLow)) := rfl

/-- An instruction that means "TIMER takes two nibbles" changes TIMER alone. -/
theorem completes_of_setTimer {i : Instr} {s : State} {hi lo : Nibble} (h : exec i s = .next (s.setTimer (hi ++ lo))) :
    ∃ t, Completes i s t [.timer] ∧ t.timer.toNat = 16 * hi.toNat + lo.toNat :=
  ⟨_, ⟨h, frame_setTimer s _⟩, append_toNat hi lo⟩

/-- Settles O53: each load puts ACC beside the nibble that stays. -/
theorem timerNibbleWrites : Obligations.TimerNibbleWrites := by
  refine ⟨fun _ _ => rfl, fun _ _ => rfl, fun s => ⟨?low, ?high⟩⟩
  case low =>
    rw [← timerHigh_toNat]
    exact completes_of_setTimer (exec_movTmrlA s)
  case high =>
    rw [← timerLow_toNat]
    exact completes_of_setTimer (exec_movTmrhA s)

/-! The byte that a table read fetches (R191). -/

/-- The key of a byte of the current bank, as the statements write it. -/
theorem romKey_bank (s : State) (a : CodeAddr) : romKey s.bank a = bankedKey s a.toNat := by
  rw [romKey_eq, bankedKey, Nat.mod_eq_of_lt a.isLt, State.bank]

theorem tableByte_eq (s : State) (page low : Nibble) :
    s.tableByte page low = s.rom.read (bankedKey s (256 * page.toNat + 16 * s.acc.toNat + low.toNat)) := by
  rw [State.tableByte, State.romRead, romKey_bank, tableAddr_toNat]

theorem tableByte_currentPage (s : State) (low : Nibble) : s.tableByte s.currentPage low =
    s.rom.read (bankedKey s (256 * (s.pc.toNat / 256) + 16 * s.acc.toNat + low.toNat)) := by
  rw [tableByte_eq, currentPage_toNat]

theorem exec_readR4A (s : State) :
    exec .readR4A s = .next (s.readToR4 (s.tableByte s.currentPage (s.load (s.pairAddr .p10)))) := rfl

theorem exec_readfR4A (s : State) :
    exec .readfR4A s = .next (s.readToR4 (s.tableByte pageF (s.load (s.pairAddr .p10)))) := rfl

theorem exec_readMr0A (s : State) : exec .readMr0A s = .next (s.readToMemory (s.tableByte s.currentPage s.r4)) := rfl

theorem exec_readfMr0A (s : State) : exec .readfMr0A s = .next (s.readToMemory (s.tableByte pageF s.r4)) := rfl

/-- An instruction that reads a byte into R4 and ACC changes these two alone, and they are the byte's nibbles. -/
theorem completes_of_readToR4 {i : Instr} {s : State} {b b' : Byte} (h : exec i s = .next (s.readToR4 b)) (hb : b = b') :
    ∃ t, Completes i s t [.acc, .reg .r4] ∧ 16 * t.r4.toNat + t.acc.toNat = b'.toNat :=
  ⟨_, ⟨h, frame_readToR4 s b⟩, hb ▸ nibbles_sum b⟩

/-- An instruction that reads a byte into memory and ACC changes these two alone, and they are the byte's nibbles. -/
theorem completes_of_readToMemory {i : Instr} {s : State} {b b' : Byte} (h : exec i s = .next (s.readToMemory b))
    (hb : b = b') : ∃ t, Completes i s t [.acc, .ram (s.pairAddr .p10)] ∧
      16 * (t.load (s.pairAddr .p10)).toNat + t.acc.toNat = b'.toNat := by
  refine ⟨_, ⟨h, frame_readToMemory s b⟩, ?_⟩
  have stored : (s.readToMemory b).load (s.pairAddr .p10) = hiNibble b := State.load_store_same s _ _
  rw [stored, ← hb]
  exact nibbles_sum b

/-- Settles O54: both reads fetch the byte of `tableByte`, from the current page or from page F. -/
theorem tableReadsIntoR4 : Obligations.TableReadsIntoR4 := by
  refine ⟨fun _ _ => rfl, fun _ _ => rfl, fun s => ⟨?current, ?pageF⟩⟩
  case current => exact completes_of_readToR4 (exec_readR4A s) (tableByte_currentPage s _)
  case pageF => exact completes_of_readToR4 (exec_readfR4A s) (tableByte_eq s pageF _)

/-- Settles O55: both reads fetch the byte of `tableByte`, from the current page or from page F. -/
theorem tableReadsIntoMemory : Obligations.TableReadsIntoMemory := by
  refine ⟨fun _ _ => rfl, fun _ _ => rfl, fun s => ⟨?current, ?pageF⟩⟩
  case current => exact completes_of_readToMemory (exec_readMr0A s) (tableByte_currentPage s _)
  case pageF => exact completes_of_readToMemory (exec_readfMr0A s) (tableByte_eq s pageF _)

end Sys2Proof.Proofs
end

section
/-! PROOFS. The ports and the branches (spec/45_io.md R150, R151, spec/46_branch.md R160 to R168). -/

namespace Sys2Proof.Proofs

open Sys2Proof Sys2Proof.Machine

/-- An instruction that reads a port changes ACC and the count of free values alone, and ACC takes each pin's level. -/
theorem completes_of_readPort {i : Instr} {s : State} {p : Port} (h : exec i s = .next (s.readPort p)) :
    ∃ t, Completes i s t [.acc, .free] ∧ ∀ k : Fin 4,
      ((s.portPins p).drive k = .low → t.acc.getLsbD k = false) ∧
      ((s.portPins p).drive k = .high → t.acc.getLsbD k = true) ∧
      ((s.portPins p).drive k = .unconnected → (s.pullHigh p).getLsbD k = true → t.acc.getLsbD k = true) :=
  ⟨_, ⟨h, frame_readPort s p⟩, fun _ => ⟨fun low => levels_of_isLow low _ _, fun high => levels_of_isHigh (.inl high) _,
    fun unconnected pulled => levels_of_isHigh (.inr ⟨unconnected, pulled⟩) _⟩⟩

theorem exec_inAPs (s : State) : exec .inAPs s = .next (s.readPort .ps) := rfl

theorem exec_inAPp (s : State) : exec .inAPp s = .next (s.readPort .pp) := rfl

/-- Settles O42: the two ports are read alike. -/
theorem inputPortsReachAccumulator : Obligations.InputPortsReachAccumulator :=
  ⟨fun _ _ => rfl, fun _ _ => rfl, fun s => ⟨completes_of_readPort (exec_inAPs s), completes_of_readPort (exec_inAPp s)⟩⟩

theorem exec_outPaA (s : State) : exec .outPaA s = .next { s with pa := s.acc } := rfl

theorem outputLevel_false (t : PinType) : outputLevel t false = .low := by
  cases t <;> rfl

/-- A latch bit of 1 on either output stage (R237). -/
theorem outputLevel_true {t : PinType} {bit : Bool} (h : bit = true) :
    (t = .cmos → outputLevel t bit = .high) ∧ (t = .openDrain → outputLevel t bit = .floating) := by
  subst h
  cases t <;> simp [outputLevel]

/-- Settles O43: a write of PA, and what the pins, the LCD switch and the fetch make of its bits. -/
theorem outputWritesLatchPinsLcdAndBank : Obligations.OutputWritesLatchPinsLcdAndBank := by
  refine ⟨fun _ _ => rfl, fun s => ⟨_, ⟨exec_outPaA s, frame_pa s s.acc⟩, rfl, rfl, ?low0, ?low1, ?high0, ?high1, ?fetch⟩⟩
  case low0 => exact fun h => (congrArg _ h).trans (outputLevel_false _)
  case low1 => exact fun h => (congrArg _ h).trans (outputLevel_false _)
  case high0 => exact outputLevel_true
  case high1 => exact outputLevel_true
  case fetch => exact congrArg s.rom.read (romKey_eq _ s.pc)

theorem exec_jmp (s : State) (a : CodeAddr) : exec (.jmp a) s = .next (s.setPc a) := rfl

/-- Settles O44: JMP is a write of PC. -/
theorem directJumpReplacesProgramCounter : Obligations.DirectJumpReplacesProgramCounter :=
  ⟨addr12Form_jmp, fun s a => ⟨_, ⟨exec_jmp s a, frame_setPc s a⟩, rfl⟩⟩

/-- PC after a conditional jump: the target of R168 when the condition holds, and else as it was. -/
theorem jumpsIf_jumpIf (s : State) (addr : JumpAddr) {b : Bool} {cond : Prop} (hb : b = true ↔ cond) :
    JumpsIf s (s.jumpIf b addr) cond addr := by
  obtain ⟨value, bit11⟩ := jumpTarget_spec s addr
  have ha : addr.toNat < 2048 := addr.isLt
  rw [jumpIf_eq]
  refine ⟨fun taken => ?_, fun skipped => ?_⟩
  · rw [if_pos (hb.2 taken)]
    refine ⟨show (s.jumpTarget addr).toNat % 2048 = _ by omega, fun next => bit11.trans ?_, fun own => bit11.trans ?_⟩
    · rw [State.keptBit11, next]
    · rw [State.keptBit11, own]
  · rw [if_neg fun taken => skipped (hb.1 taken)]
    rfl

/-- An instruction that is a conditional jump changes PC alone. -/
theorem completes_of_jumpIf {i : Instr} {s : State} {b : Bool} {a : JumpAddr} {cond : Prop}
    (h : exec i s = .next (s.jumpIf b a)) (hb : b = true ↔ cond) :
    ∃ t, Completes i s t [.pc] ∧ JumpsIf s t cond a :=
  ⟨_, ⟨h, frame_jumpIf s b a⟩, jumpsIf_jumpIf s a hb⟩

theorem nibble_beq_zero (v : Nibble) : (v == 0) = true ↔ v.toNat = 0 :=
  beq_iff_eq.trans BitVec.toNat_inj.symm

theorem nibble_bne_zero (v : Nibble) : (v != 0) = true ↔ v.toNat ≠ 0 :=
  bne_iff_ne.trans (not_congr BitVec.toNat_inj.symm)

section
variable (s : State) (a : JumpAddr)

theorem exec_jc : exec (.jc a) s = .next (s.jumpIf s.cf a) := rfl

theorem exec_jnc : exec (.jnc a) s = .next (s.jumpIf (!s.cf) a) := rfl

theorem exec_jtmr : exec (.jtmr a) s = .next (State.jumpIf { s with tf := false } s.tf a) := rfl

theorem exec_ja0 : exec (.ja0 a) s = .next (s.jumpIf (s.acc.getLsbD 0) a) := rfl

theorem exec_ja1 : exec (.ja1 a) s = .next (s.jumpIf (s.acc.getLsbD 1) a) := rfl

theorem exec_ja2 : exec (.ja2 a) s = .next (s.jumpIf (s.acc.getLsbD 2) a) := rfl

theorem exec_ja3 : exec (.ja3 a) s = .next (s.jumpIf (s.acc.getLsbD 3) a) := rfl

theorem exec_jzA : exec (.jzA a) s = .next (s.jumpIf (s.acc == 0) a) := rfl

theorem exec_jnzA : exec (.jnzA a) s = .next (s.jumpIf (s.acc != 0) a) := rfl

theorem exec_jnzR0 : exec (.jnzR0 a) s = .next (s.jumpIf (s.reg .r0 != 0) a) := rfl

theorem exec_jnzR1 : exec (.jnzR1 a) s = .next (s.jumpIf (s.reg .r1 != 0) a) := rfl

theorem exec_jnzR4 : exec (.jnzR4 a) s = .next (s.jumpIf (s.reg .r4 != 0) a) := rfl

/-- JTMR clears TF before it jumps, and the jump leaves it. -/
theorem completes_jtmr : ∃ t, Completes (.jtmr a) s t [.pc, .tf] ∧ JumpsIf s t (s.tf = true) a ∧ t.tf = false := by
  have jumps : Frame [.pc] { s with tf := false } (State.jumpIf { s with tf := false } s.tf a) := frame_jumpIf _ _ a
  exact ⟨_, ⟨exec_jtmr s a, frame_mono (frame_comp (frame_tf s false) jumps) (by simp)⟩,
    jumpsIf_jumpIf { s with tf := false } a Iff.rfl, jumps .tf (by simp)⟩

end

/-- Settles O45: three conditional jumps, on CF, on its complement, and on TF. -/
theorem flagJumpsFollowTheirFlag : Obligations.FlagJumpsFollowTheirFlag := by
  refine ⟨addr11Form_jc, addr11Form_jnc, addr11Form_jtmr, fun s a => ⟨?jc, ?jnc, ?jtmr⟩⟩
  case jc => exact completes_of_jumpIf (exec_jc s a) Iff.rfl
  case jnc => exact completes_of_jumpIf (exec_jnc s a) (by simp)
  case jtmr => exact completes_jtmr s a

/-- Settles O46: six conditional jumps, on ACC as a number and on its bits. -/
theorem accumulatorJumpsTestAccumulator : Obligations.AccumulatorJumpsTestAccumulator := by
  refine ⟨addr11Form_jzA, addr11Form_jnzA, fun s a => ⟨?zero, ?nonzero⟩, ?bits⟩
  case zero => exact completes_of_jumpIf (exec_jzA s a) (nibble_beq_zero _)
  case nonzero => exact completes_of_jumpIf (exec_jnzA s a) (nibble_bne_zero _)
  case bits =>
    refine List.forall_mem_cons.2 ⟨?bit0, List.forall_mem_cons.2 ⟨?bit1, List.forall_mem_cons.2 ⟨?bit2,
      List.forall_mem_singleton.2 ?bit3⟩⟩⟩
    case bit0 => exact ⟨addr11Form_ja0, fun s a => completes_of_jumpIf (exec_ja0 s a) Iff.rfl⟩
    case bit1 => exact ⟨addr11Form_ja1, fun s a => completes_of_jumpIf (exec_ja1 s a) Iff.rfl⟩
    case bit2 => exact ⟨addr11Form_ja2, fun s a => completes_of_jumpIf (exec_ja2 s a) Iff.rfl⟩
    case bit3 => exact ⟨addr11Form_ja3, fun s a => completes_of_jumpIf (exec_ja3 s a) Iff.rfl⟩

/-- Settles O47: three conditional jumps, on a register as a number. -/
theorem registerJumpsTestRegister : Obligations.RegisterJumpsTestRegister := by
  refine List.forall_mem_cons.2 ⟨?r0, List.forall_mem_cons.2 ⟨?r1, List.forall_mem_singleton.2 ?r4⟩⟩
  case r0 => exact ⟨addr11Form_jnzR0, fun s a => completes_of_jumpIf (exec_jnzR0 s a) (nibble_bne_zero _)⟩
  case r1 => exact ⟨addr11Form_jnzR1, fun s a => completes_of_jumpIf (exec_jnzR1 s a) (nibble_bne_zero _)⟩
  case r4 => exact ⟨addr11Form_jnzR4, fun s a => completes_of_jumpIf (exec_jnzR4 s a) (nibble_bne_zero _)⟩

end Sys2Proof.Proofs
end

section
/-! PROOFS. Subroutines, interrupt enabling, and the control instructions (spec/47_subroutine_flag_nop.md R170 to R176,
spec/48_timer_tableread.md R180 to R182, spec/49_sound_halt.md R195 to R200). -/

namespace Sys2Proof.Proofs

open Sys2Proof Sys2Proof.Machine

/-! CALL, RET and RETI, with the stack free and with the stack in use. -/

section
variable {s : State}

theorem exec_call_free (a : CodeAddr) (h : s.sub = false) : exec (.call a) s = .next (s.pushCall.setPc a) := by
  simp [exec, execCall, h]

theorem exec_call_inUse (a : CodeAddr) (h : s.sub = true) : exec (.call a) s = .fault .callWhileStackInUse := by
  simp [exec, execCall, h]

theorem exec_ret_inUse (h : s.sub = true) : exec .ret s = .next s.returnFromStack := by
  simp [exec, execRet, h]

theorem exec_ret_free (h : s.sub = false) : exec .ret s = .fault .returnWithEmptyStack := by
  simp [exec, execRet, h]

theorem exec_reti_inUse (h : s.sub = true) : exec .reti s = .next s.restoreCarry.returnFromStack := by
  simp [exec, execReti, h]

theorem exec_reti_free (h : s.sub = false) : exec .reti s = .fault .returnWithEmptyStack := by
  simp [exec, execReti, h]

end

/-- Settles O48: the push and the jump, or the fault. -/
theorem callSavesReturnAddress : Obligations.CallSavesReturnAddress := by
  refine ⟨addr12Form_call, fun s a => ⟨fun h => ?free, exec_call_inUse a⟩⟩
  case free =>
    have pushed : Frame [.stackPc, .sub, .stackByCall, .pc] s (s.pushCall.setPc a) :=
      frame_comp (frame_pushCall s) (frame_setPc _ a)
    exact ⟨_, ⟨exec_call_free a h, frame_mono pushed (by simp)⟩, rfl, rfl, rfl, rfl⟩

/-- RETI with the stack in use: the carry comes back, then PC. -/
theorem completes_reti {s : State} (h : s.sub = true) : ∃ t, Completes .reti s t [.pc, .sub, .cf, .free] ∧
    t.pc = s.stackPc ∧ t.sub = false ∧ (s.stackByCall = false → t.cf = s.stackCf ∧ t.free = s.free) := by
  refine ⟨_, ⟨exec_reti_inUse h, frame_mono (frame_comp (frame_restoreCarry s) (frame_returnFromStack _)) (by simp)⟩,
    frame_restoreCarry s .stackPc (by simp), rfl, fun byInterrupt => ?_⟩
  rw [restoreCarry_interrupt s byInterrupt]
  exact ⟨rfl, rfl⟩

/-- Settles O49: the returns with the stack in use, and their faults. -/
theorem returnsRestoreFromStack : Obligations.ReturnsRestoreFromStack := by
  refine ⟨fun _ _ => rfl, fun _ _ => rfl, fun s => ⟨fun h => ⟨?ret, completes_reti h⟩, fun h => ?faults⟩⟩
  case ret => exact ⟨_, ⟨exec_ret_inUse h, frame_returnFromStack s⟩, rfl, rfl⟩
  case faults => exact ⟨exec_ret_free h, exec_reti_free h⟩

theorem exec_ei (s : State) : exec .ei s = .next { s with ie := true } := rfl

theorem exec_di (s : State) : exec .di s = .next { s with ie := false } := rfl

/-- The acceptance condition, as a proposition (R215). -/
theorem interruptReady_iff (s : State) : s.interruptReady = true ↔
    s.halted = false ∧ s.ie = true ∧ s.sub = false ∧ (s.rtcl = true ∨ s.tf = true) := by
  simp [State.interruptReady, and_assoc]

/-- Settles O51: the two writes of IE, and what the acceptance condition makes of them. -/
theorem interruptEnableAndDisable : Obligations.InterruptEnableAndDisable := by
  refine ⟨fun _ _ => rfl, fun _ _ => rfl, fun s => ⟨?ei, ?di⟩⟩
  case ei =>
    exact ⟨_, ⟨exec_ei s, frame_ie s true⟩, rfl, fun hsub hhalted pending =>
      (interruptReady_iff _).2 ⟨hhalted, rfl, hsub, pending⟩⟩
  case di => exact ⟨_, ⟨exec_di s, frame_ie s false⟩, rfl, by simp [State.interruptReady]⟩

/-! The control instructions. -/

theorem exec_stc (s : State) : exec .stc s = .next (s.setCf true) := rfl

theorem exec_timerOn (s : State) : exec .timerOn s = .next { s with ton := true } := rfl

theorem exec_timerOff (s : State) : exec .timerOff s = .next { s with ton := false } := rfl

theorem exec_timerImm (s : State) (d : Byte) : exec (.timerImm d) s = .next (s.setTimer d) := rfl

theorem exec_soundImm (s : State) (n : Nibble) : exec (.soundImm n) s = .next (s.startSound n) := rfl

theorem exec_soundOne (s : State) : exec .soundOne s = .next { s with sndLoop := false } := rfl

theorem exec_soundLoop (s : State) : exec .soundLoop s = .next { s with sndLoop := true } := rfl

theorem exec_soundOff (s : State) : exec .soundOff s = .next { s with sndOn := false } := rfl

theorem exec_halt (s : State) : exec .halt s = .next { s with halted := true } := rfl

/-- Settles O57: eight writes of one piece of state each, or of a sound's two. -/
theorem unsourcedControlInstructions : Obligations.UnsourcedControlInstructions := by
  refine ⟨oneByteAdmitted_of_decode fun _ _ => rfl, oneByteAdmitted_of_decode fun _ _ => rfl,
    oneByteAdmitted_of_decode fun _ _ => rfl, fun _ d h => decode_timerImm d h, imm4Admitted_soundImm,
    oneByteAdmitted_of_decode fun _ _ => rfl, oneByteAdmitted_of_decode fun _ _ => rfl,
    oneByteAdmitted_of_decode fun _ _ => rfl, fun s => ⟨?stc, ?timerOn, ?timerOff, fun d => ?timerImm,
    fun n => ?soundImm, ?soundOne, ?soundLoop, ?soundOff⟩⟩
  case stc => exact completes_of_setCf (exec_stc s)
  case timerOn => exact ⟨_, ⟨exec_timerOn s, frame_ton s true⟩, rfl⟩
  case timerOff => exact ⟨_, ⟨exec_timerOff s, frame_ton s false⟩, rfl⟩
  case timerImm => exact ⟨_, ⟨exec_timerImm s d, frame_setTimer s d⟩, rfl⟩
  case soundImm => exact completes_of_startSound (exec_soundImm s n)
  case soundOne => exact ⟨_, ⟨exec_soundOne s, frame_sndLoop s false⟩, rfl⟩
  case soundLoop => exact ⟨_, ⟨exec_soundLoop s, frame_sndLoop s true⟩, rfl⟩
  case soundOff => exact ⟨_, ⟨exec_soundOff s, frame_sndOn s false⟩, rfl⟩

/-- Settles O58: the one second byte that 37H admits, and a write of HALTED. -/
theorem haltEntersPowerDown : Obligations.HaltEntersPowerDown :=
  ⟨decode_halt, fun _ _ h => if_neg h, fun s => ⟨_, ⟨exec_halt s, frame_halted s true⟩, rfl⟩⟩

end Sys2Proof.Proofs
end

section
/-! PROOFS. What any instruction can do, said once: the pieces of the state it may write, and the two memories. Every
statement about all instructions follows from it. -/

namespace Sys2Proof.Proofs

open Sys2Proof Sys2Proof.Machine

/-- The pieces of the state that an instruction may write. -/
def writes (i : Instr) (s : State) : List Piece :=
  match i with
  | .rrA | .rlA | .rrcA | .rlcA | .adcAM10 | .addAM10 | .sbcAM10 | .subAM10 | .daa | .addAImm _ | .subAImm _ => [.acc, .cf]
  | .movAM10 | .movAM32 | .andAM10 | .xorAM10 | .orAM10 | .movAR0 | .movAR1 | .movAR2 | .movAR3 | .movAR4 | .incA | .decA
  | .movATmrl | .movATmrh | .andAImm _ | .xorAImm _ | .orAImm _ | .movAImm _ => [.acc]
  | .movM10A | .incM10 | .decM10 | .andM10A | .xorM10A | .orM10A => [.ram (s.pairAddr .p10)]
  | .movM32A | .incM32 | .decM32 => [.ram (s.pairAddr .p32)]
  | .incR0 | .decR0 | .movR0A => [.reg .r0]
  | .incR1 | .decR1 | .movR1A => [.reg .r1]
  | .incR2 | .decR2 | .movR2A => [.reg .r2]
  | .incR3 | .decR3 | .movR3A => [.reg .r3]
  | .incR4 | .decR4 | .movR4A | .movR4Imm _ => [.reg .r4]
  | .movR1R0Imm _ => [.reg .r1, .reg .r0]
  | .movR3R2Imm _ => [.reg .r3, .reg .r2]
  | .clc | .stc => [.cf]
  | .ei | .di => [.ie]
  | .ret => [.pc, .sub]
  | .reti => [.cf, .free, .pc, .sub]
  | .call _ => [.stackPc, .sub, .stackByCall, .pc]
  | .outPaA => [.pa]
  | .inAPs | .inAPp => [.acc, .free]
  | .halt => [.halted]
  | .timerOn | .timerOff => [.ton]
  | .movTmrlA | .movTmrhA | .timerImm _ => [.timer]
  | .nop => []
  | .soundImm _ | .soundA => [.sndCh, .sndOn]
  | .soundOne | .soundLoop => [.sndLoop]
  | .soundOff => [.sndOn]
  | .readR4A | .readfR4A => [.acc, .reg .r4]
  | .readMr0A | .readfMr0A => [.acc, .ram (s.pairAddr .p10)]
  | .ja0 _ | .ja1 _ | .ja2 _ | .ja3 _ | .jnzR0 _ | .jnzR1 _ | .jzA _ | .jnzA _ | .jc _ | .jnc _ | .jnzR4 _ | .jmp _ => [.pc]
  | .jtmr _ => [.tf, .pc]

/-- THE EFFECT: nothing outside `changed` differs, the program memory is the same list, and data memory is the same list or
that with one location written. -/
structure Effect (changed : List Piece) (s t : State) : Prop where
  frame : Frame changed s t
  rom : t.rom = s.rom
  ram : t.ram = s.ram ∨ ∃ (a : DataAddr) (v : Nibble), t.ram = s.ram.write a.toNat v

theorem effect_storePair (s : State) (p : Pair) (v : Nibble) :
    Effect [.ram (s.pairAddr p)] s (s.storePair p v) :=
  ⟨frame_store s _ v, rfl, .inr ⟨_, v, rfl⟩⟩

theorem effect_jumpIf (s : State) (cond : Bool) (a : JumpAddr) : Effect [.pc] s (s.jumpIf cond a) := by
  refine ⟨frame_jumpIf s cond a, ?_, .inl ?_⟩ <;> rw [jumpIf_eq] <;> rfl

theorem restoreCarry_memories (s : State) : s.restoreCarry.rom = s.rom ∧ s.restoreCarry.ram = s.ram := by
  cases h : s.stackByCall with
  | true => rw [restoreCarry_call s h]; exact ⟨rfl, rfl⟩
  | false => rw [restoreCarry_interrupt s h]; exact ⟨rfl, rfl⟩

/-- SUB where CALL and the returns complete (R170 to R172). -/
theorem sub_of_call_next {a : CodeAddr} {s t : State} (h : exec (.call a) s = .next t) : s.sub = false :=
  eq_false_of_ne_true fun inUse => by simp [exec_call_inUse a inUse] at h

theorem sub_of_ret_next {s t : State} (h : exec .ret s = .next t) : s.sub = true :=
  eq_true_of_ne_false fun free => by simp [exec_ret_free free] at h

theorem sub_of_reti_next {s t : State} (h : exec .reti s = .next t) : s.sub = true :=
  eq_true_of_ne_false fun free => by simp [exec_reti_free free] at h

/-- WHAT AN INSTRUCTION CAN DO: if it answers a next state, its effect is on the pieces it may write. -/
theorem exec_effect {i : Instr} {s t : State} (h : exec i s = .next t) : Effect (writes i s) s t := by
  cases i with
  | rrA | rlA | rrcA | rlcA | adcAM10 | addAM10 | sbcAM10 | subAM10 | daa | addAImm | subAImm =>
    cases h; exact ⟨frame_setAccCf s _, rfl, .inl rfl⟩
  | movAM10 | movAM32 | andAM10 | xorAM10 | orAM10 | movAR0 | movAR1 | movAR2 | movAR3 | movAR4 | incA | decA | movATmrl
  | movATmrh | andAImm | xorAImm | orAImm | movAImm =>
    cases h; exact ⟨frame_setAcc s _, rfl, .inl rfl⟩
  | movM10A | incM10 | decM10 | andM10A | xorM10A | orM10A | movM32A | incM32 | decM32 =>
    cases h; exact effect_storePair s _ _
  | incR0 | decR0 | movR0A | incR1 | decR1 | movR1A | incR2 | decR2 | movR2A | incR3 | decR3 | movR3A | incR4 | decR4
  | movR4A | movR4Imm =>
    cases h; exact ⟨frame_setReg s _ _, rfl, .inl rfl⟩
  | movR1R0Imm d => cases h; exact ⟨frame_setPair_p10 s d, rfl, .inl rfl⟩
  | movR3R2Imm d => cases h; exact ⟨frame_setPair_p32 s d, rfl, .inl rfl⟩
  | clc | stc => cases h; exact ⟨frame_setCf s _, rfl, .inl rfl⟩
  | ei | di => cases h; exact ⟨frame_ie s _, rfl, .inl rfl⟩
  | ret =>
    rw [exec_ret_inUse (sub_of_ret_next h)] at h
    cases h; exact ⟨frame_returnFromStack s, rfl, .inl rfl⟩
  | reti =>
    rw [exec_reti_inUse (sub_of_reti_next h)] at h
    obtain ⟨rom, ram⟩ := restoreCarry_memories s
    cases h; exact ⟨frame_comp (frame_restoreCarry s) (frame_returnFromStack _), rom, .inl ram⟩
  | call a =>
    rw [exec_call_free a (sub_of_call_next h)] at h
    cases h; exact ⟨frame_comp (frame_pushCall s) (frame_setPc _ a), rfl, .inl rfl⟩
  | outPaA => cases h; exact ⟨frame_pa s _, rfl, .inl rfl⟩
  | inAPs | inAPp => cases h; exact ⟨frame_readPort s _, rfl, .inl rfl⟩
  | halt => cases h; exact ⟨frame_halted s _, rfl, .inl rfl⟩
  | timerOn | timerOff => cases h; exact ⟨frame_ton s _, rfl, .inl rfl⟩
  | movTmrlA | movTmrhA | timerImm => cases h; exact ⟨frame_setTimer s _, rfl, .inl rfl⟩
  | nop => cases h; exact ⟨frame_refl _ s, rfl, .inl rfl⟩
  | soundImm | soundA => cases h; exact ⟨frame_startSound s _, rfl, .inl rfl⟩
  | soundOne | soundLoop => cases h; exact ⟨frame_sndLoop s _, rfl, .inl rfl⟩
  | soundOff => cases h; exact ⟨frame_sndOn s _, rfl, .inl rfl⟩
  | readR4A | readfR4A => cases h; exact ⟨frame_readToR4 s _, rfl, .inl rfl⟩
  | readMr0A | readfMr0A => cases h; exact ⟨frame_readToMemory s _, rfl, .inr ⟨_, _, rfl⟩⟩
  | ja0 | ja1 | ja2 | ja3 | jnzR0 | jnzR1 | jzA | jnzA | jc | jnc | jnzR4 => cases h; exact effect_jumpIf s _ _
  | jmp a => cases h; exact ⟨frame_setPc s a, rfl, .inl rfl⟩
  | jtmr a =>
    have jumps := effect_jumpIf { s with tf := false } s.tf a
    cases h; exact ⟨frame_comp (frame_tf s false) jumps.frame, jumps.rom, jumps.ram⟩

/-- A piece that an instruction does not write is as before. -/
theorem exec_same {i : Instr} {s t : State} (h : exec i s = .next t) (p : Piece) (hp : p ∉ writes i s) : p.Same s t :=
  (exec_effect h).frame p hp

/-! Who writes what. -/

section
variable {i : Instr} {s : State}

theorem writesCarry_of_mem_writes (h : .cf ∈ writes i s) : writesCarry i = true := by
  cases i with
  | rrA | rlA | rrcA | rlcA | adcAM10 | addAM10 | sbcAM10 | subAM10 | clc | stc | reti | daa | addAImm | subAImm => rfl
  | _ => simp [writes] at h

theorem storeAddr_of_mem_writes {a : DataAddr} (h : .ram a ∈ writes i s) : storeAddr i s = some a := by
  cases i with
  | movM10A | incM10 | decM10 | andM10A | xorM10A | orM10A | readMr0A | readfMr0A | movM32A | incM32 | decM32 =>
    simp only [writes, List.mem_cons, reduceCtorEq, Piece.ram.injEq, List.not_mem_nil, or_false, false_or] at h
    rw [h, storeAddr]
  | _ => simp [writes] at h

/-! No instruction writes RTCL, the parameters, or what belongs to the other agents. -/

theorem rtcl_not_mem_writes (i : Instr) (s : State) : .rtcl ∉ writes i s := by
  cases i <;> simp [writes]

theorem config_not_mem_writes (i : Instr) (s : State) : .config ∉ writes i s := by
  cases i <;> simp [writes]

theorem schedule_not_mem_writes (i : Instr) (s : State) : .schedule ∉ writes i s := by
  cases i <;> simp [writes]

theorem resetHeld_not_mem_writes (i : Instr) (s : State) : .resetHeld ∉ writes i s := by
  cases i <;> simp [writes]

theorem eq_of_ie_mem_writes (h : .ie ∈ writes i s) : i = .ei ∨ i = .di := by
  cases i with
  | ei | di => simp
  | _ => simp [writes] at h

theorem eq_of_tf_mem_writes (h : .tf ∈ writes i s) : ∃ a, i = .jtmr a := by
  cases i with
  | jtmr a => exact ⟨a, rfl⟩
  | _ => simp [writes] at h

theorem eq_of_sub_mem_writes (h : .sub ∈ writes i s) : (∃ a, i = .call a) ∨ i = .ret ∨ i = .reti := by
  cases i with
  | call | ret | reti => simp
  | _ => simp [writes] at h

theorem eq_of_halted_mem_writes (h : .halted ∈ writes i s) : i = .halt := by
  cases i with
  | halt => rfl
  | _ => simp [writes] at h

theorem eq_of_ton_mem_writes (h : .ton ∈ writes i s) : i = .timerOn ∨ i = .timerOff := by
  cases i with
  | timerOn | timerOff => simp
  | _ => simp [writes] at h

theorem eq_of_pa_mem_writes (h : .pa ∈ writes i s) : i = .outPaA := by
  cases i with
  | outPaA => rfl
  | _ => simp [writes] at h

/-- Only CALL writes the stack; the returns leave it (R171). -/
theorem eq_of_stack_mem_writes (h : .stackPc ∈ writes i s ∨ .stackCf ∈ writes i s ∨ .stackByCall ∈ writes i s) :
    ∃ a, i = .call a := by
  cases i with
  | call a => exact ⟨a, rfl⟩
  | _ => simp [writes] at h

end

/-! CF as an input. -/

theorem jumpIf_setCf (s : State) (c b : Bool) (a : JumpAddr) : (s.setCf c).jumpIf b a = (s.jumpIf b a).setCf c := by
  cases b <;> rfl

theorem restoreCarry_setCf (s : State) (c : Bool) : (s.setCf c).restoreCarry = s.restoreCarry := by
  cases h : s.stackByCall with
  | true => rw [restoreCarry_call s h, restoreCarry_call (s.setCf c) h]; rfl
  | false => rw [restoreCarry_interrupt s h, restoreCarry_interrupt (s.setCf c) h]; rfl

/-- An instruction that does not read CF does the same whatever CF is, but that CF stays changed if it does not write it. -/
theorem nextOf_exec_setCf {i : Instr} (hi : readsCarry i = false) (s : State) (c : Bool) :
    nextOf (exec i (s.setCf c)) = (nextOf (exec i s)).map fun t => if writesCarry i then t else t.setCf c := by
  cases i with
  | rrcA | rlcA | adcAM10 | sbcAM10 | daa | jc | jnc => cases hi
  | call a =>
    cases h : s.sub with
    | true => rw [exec_call_inUse a h, exec_call_inUse (s := s.setCf c) a h]; rfl
    | false => rw [exec_call_free a h, exec_call_free (s := s.setCf c) a h]; rfl
  | ret =>
    cases h : s.sub with
    | true => rw [exec_ret_inUse h, exec_ret_inUse (s := s.setCf c) h]; rfl
    | false => rw [exec_ret_free h, exec_ret_free (s := s.setCf c) h]; rfl
  | reti =>
    cases h : s.sub with
    | true => rw [exec_reti_inUse h, exec_reti_inUse (s := s.setCf c) h, restoreCarry_setCf]; rfl
    | false => rw [exec_reti_free h, exec_reti_free (s := s.setCf c) h]; rfl
  | ja0 | ja1 | ja2 | ja3 | jnzR0 | jnzR1 | jzA | jnzA | jnzR4 => exact congrArg some (jumpIf_setCf s c _ _)
  | jtmr a => exact congrArg some (jumpIf_setCf { s with tf := false } c s.tf a)
  | _ => rfl

/-- Settles O13: the writers by the effect, the readers by running with either CF. -/
theorem carryFlowsOnlyThroughListedInstructions : Obligations.CarryFlowsOnlyThroughListedInstructions := by
  refine fun i s => ⟨fun noWrite t h => ?kept, fun noRead c => nextOf_exec_setCf noRead s c⟩
  case kept => exact exec_same h .cf fun written => by simp [writesCarry_of_mem_writes written] at noWrite

/-- Settles O14: each bit by who writes it. -/
theorem controlBitsHaveOnlyTheirWriters : Obligations.ControlBitsHaveOnlyTheirWriters := by
  refine fun i s t h => ⟨exec_same h .rtcl (rtcl_not_mem_writes i s), fun notEi notDi => ?ie, fun notJtmr => ?tf,
    fun notCall notRet notReti => ?sub, fun notHalt => ?halted, fun notOn notOff => ?ton⟩
  case ie => exact exec_same h .ie fun w => (eq_of_ie_mem_writes w).elim notEi notDi
  case tf => exact exec_same h .tf fun w => (eq_of_tf_mem_writes w).elim notJtmr
  case sub =>
    exact exec_same h .sub fun w => (eq_of_sub_mem_writes w).elim (fun isCall => isCall.elim notCall) (·.elim notRet notReti)
  case halted => exact exec_same h .halted fun w => notHalt (eq_of_halted_mem_writes w)
  case ton => exact exec_same h .ton fun w => (eq_of_ton_mem_writes w).elim notOn notOff

/-- Settles O15: a location an instruction writes is the one `storeAddr` computes. -/
theorem instructionStoresAtMostOneLocation : Obligations.InstructionStoresAtMostOneLocation :=
  fun _ _ _ a h other => exec_same h (.ram a) fun written => other (storeAddr_of_mem_writes written)

/-- Settles O16: CALL and the returns by SUB, and every other instruction answers a next state outright. -/
theorem execCompletesButForStackMisuse : Obligations.ExecCompletesButForStackMisuse := by
  intro i s
  refine ⟨?call, ?returns, fun noCallFault noReturnFault => ?completes⟩
  case call =>
    rintro ⟨a, rfl⟩ inUse
    exact exec_call_inUse a inUse
  case returns =>
    rintro (rfl | rfl) free
    · exact exec_ret_free free
    · exact exec_reti_free free
  case completes =>
    cases i with
    | call a =>
      have free : s.sub = false := eq_false_of_ne_true fun inUse => noCallFault ⟨⟨a, rfl⟩, inUse⟩
      exact ⟨_, exec_call_free a free⟩
    | ret =>
      have inUse : s.sub = true := eq_true_of_ne_false fun free => noReturnFault ⟨.inl rfl, free⟩
      exact ⟨_, exec_ret_inUse inUse⟩
    | reti =>
      have inUse : s.sub = true := eq_true_of_ne_false fun free => noReturnFault ⟨.inr rfl, free⟩
      exact ⟨_, exec_reti_inUse inUse⟩
    | _ => exact ⟨_, rfl⟩

end Sys2Proof.Proofs
end

section
/-! PROOFS. What a step can do, said once, with the effect of each way of moving (spec/60_exceptions.md R215 to R240,
spec/70_reset_and_hazards.md R250, R251). -/

namespace Sys2Proof.Proofs

open Sys2Proof Sys2Proof.Machine

/-- `s` with the moves `rest` still to come: a step runs its move from here. -/
abbrev withSchedule (s : State) (rest : List Move) : State := { s with schedule := rest }

/-- THE SIX WAYS A STEP ANSWERS A NEXT STATE. -/
inductive StepTo (s : State) : State → Prop
  /-- Nothing is left to move, and the next round is drawn. -/
  | round (h : s.schedule = []) : StepTo s s.nextRound
  /-- RES goes low. -/
  | reset {rest : List Move} (h : s.schedule = .resPin true :: rest) : StepTo s ((withSchedule s rest).setRes true)
  /-- Any other move of a device or of the environment. -/
  | device {m : Move} {rest : List Move} (h : s.schedule = m :: rest) (notCpu : ∀ d, m ≠ .cpu d)
    (notReset : m ≠ .resPin true) : StepTo s ((withSchedule s rest).deviceMove m)
  /-- The CPU waits, halted or held in reset. -/
  | wait {d : Bool} {rest : List Move} (h : s.schedule = .cpu d :: rest) : StepTo s (withSchedule s rest)
  /-- The CPU enters an interrupt. -/
  | enter {d : Bool} {rest : List Move} (h : s.schedule = .cpu d :: rest) (released : s.resetHeld = false)
    (first : s.interruptFirst d = true) : StepTo s (withSchedule s rest).takeInterrupt
  /-- The CPU runs the instruction at PC. -/
  | run {d : Bool} {rest : List Move} {i : Instr} {t : State} (h : s.schedule = .cpu d :: rest)
    (released : s.resetHeld = false) (running : s.halted = false) (first : s.interruptFirst d = false)
    (fetched : s.fetched = .ok i) (answers : exec i ((withSchedule s rest).setPc (s.npc i.length)) = .next t) : StepTo s t

theorem stepTo_of_step {s t : State} (h : step s = .next t) : StepTo s t := by
  rcases step_next h with ⟨hs, rfl⟩ | ⟨d, rest, hs, hcpu⟩ | ⟨m, rest, hs, notCpu, rfl⟩
  · exact .round hs
  · rcases cpuStep_next hcpu with ⟨-, rfl⟩ | ⟨awake, first, rfl⟩ | ⟨awake, first, i, fetched, hexec⟩
    · exact .wait hs
    · exact .enter hs (Bool.or_eq_false_iff.1 awake).1 first
    · obtain ⟨released, running⟩ := Bool.or_eq_false_iff.1 awake
      exact .run hs released running first fetched hexec
  · by_cases hm : m = .resPin true
    · subst hm
      exact .reset hs
    · exact .device hs notCpu hm

/-! The effect of each way of moving. -/

/-- A write of the stack, SUB, PC and the pending bits leaves every other piece of the state as it was. -/
theorem frame_entry (s : State) (vector : CodeAddr) (rtcl tf : Bool) :
    Frame [.stackPc, .stackCf, .sub, .stackByCall, .pc, .rtcl, .tf] s { s with
      stackPc := s.pc, stackCf := s.cf, sub := true, stackByCall := false, pc := vector, rtcl := rtcl, tf := tf } := by
  intro p hp
  cases p with
  | stackPc | stackCf | sub | stackByCall | pc | rtcl | tf => simp at hp
  | reg r => cases r <;> rfl
  | _ => rfl

/-- Taking an interrupt (R217), of the RTC or of the timer. -/
theorem effect_takeInterrupt (s : State) :
    Effect [.stackPc, .stackCf, .sub, .stackByCall, .pc, .rtcl, .tf] s s.takeInterrupt := by
  cases h : s.rtcl with
  | true =>
    rw [takeInterrupt_rtc s h]
    exact ⟨frame_entry s rtcVector false s.tf, rfl, .inl rfl⟩
  | false =>
    rw [takeInterrupt_timer s h]
    exact ⟨frame_entry s timerVector s.rtcl false, rfl, .inl rfl⟩

theorem effect_mono {a b : List Piece} {s t : State} (h : Effect a s t) (hab : a ⊆ b) : Effect b s t :=
  ⟨frame_mono h.frame hab, h.rom, h.ram⟩

theorem effect_nextRound (s : State) : Effect [.free, .schedule] s s.nextRound :=
  ⟨frame_comp (frame_drawn s) (frame_schedule s.drawn s.round), rfl, .inl rfl⟩

theorem effect_timerTick (s : State) : Effect [.timer, .tf] s s.timerTick := by
  by_cases enabled : (s.ton && !s.halted) = true
  · by_cases atEnd : s.timer = 0xFF
    · rw [timerTick_overflow s enabled atEnd]
      exact ⟨frame_comp (frame_setTimer s 0x00) (frame_tf _ true), rfl, .inl rfl⟩
    · rw [timerTick_count s enabled atEnd]
      exact ⟨frame_mono (frame_setTimer s _) (by simp), rfl, .inl rfl⟩
  · rw [timerTick_idle s (eq_false_of_ne_true enabled)]
    exact ⟨frame_refl _ s, rfl, .inl rfl⟩

theorem effect_rtcEvent (s : State) : Effect [.rtcl, .halted] s s.rtcEvent :=
  ⟨frame_comp (frame_rtcl s true) (frame_halted _ false), rfl, .inl rfl⟩

theorem effect_soundEnd (s : State) : Effect [.sndOn] s s.soundEnd := by
  rw [soundEnd_eq]
  exact ⟨frame_sndOn s _, rfl, .inl rfl⟩

theorem effect_setPins (s : State) (ps pp : Pins) : Effect [.ps, .pp, .halted, .free] s (s.setPins ps pp) := by
  refine ⟨fun p hp => ?_, rfl, .inl rfl⟩
  cases p with
  | ps | pp | halted | free => simp at hp
  | reg r => cases r <;> rfl
  | _ => rfl

theorem effect_release (s : State) : Effect [.resetHeld] s (s.setRes false) := by
  refine ⟨frame_of_singleton fun p hp => ?_, rfl, .inl rfl⟩
  cases p with
  | resetHeld => exact absurd rfl hp
  | reg r => cases r <;> rfl
  | _ => rfl

/-- The pieces of the state that the devices and the environment may write, but for RES going low. -/
def deviceWrites : List Piece := [.timer, .tf, .rtcl, .halted, .sndOn, .ps, .pp, .free, .resetHeld]

theorem effect_deviceMove (s : State) {m : Move} (notReset : m ≠ .resPin true) :
    Effect deviceWrites s (s.deviceMove m) := by
  cases m with
  | timerTick => exact effect_mono (effect_timerTick s) (by simp [deviceWrites])
  | rtcEvent => exact effect_mono (effect_rtcEvent s) (by simp [deviceWrites])
  | soundEnd => exact effect_mono (effect_soundEnd s) (by simp [deviceWrites])
  | pins ps pp => exact effect_mono (effect_setPins s ps pp) (by simp [deviceWrites])
  | resPin low =>
    cases low with
    | true => exact absurd rfl notReset
    | false => exact effect_mono (effect_release s) (by simp [deviceWrites])
  | cpu | lcdScan => exact ⟨frame_refl _ s, rfl, .inl rfl⟩

end Sys2Proof.Proofs
end

section
/-! PROOFS. What every step keeps: program memory and configuration, PA, the stack in use, and the invariant. -/

namespace Sys2Proof.Proofs

open Sys2Proof Sys2Proof.Machine

/-- Settles O11: no way of moving writes the program memory or the configuration. -/
theorem stepsKeepProgramMemoryAndConfig : Obligations.StepsKeepProgramMemoryAndConfig := by
  intro s t hstep
  cases stepTo_of_step hstep with
  | round | reset | wait => exact ⟨rfl, rfl⟩
  | @device m rest _ _ notReset =>
    have effect := effect_deviceMove (withSchedule s rest) notReset
    exact ⟨effect.rom, effect.frame .config (by simp [deviceWrites])⟩
  | @enter d rest =>
    have effect := effect_takeInterrupt (withSchedule s rest)
    exact ⟨effect.rom, effect.frame .config (by simp)⟩
  | run _ _ _ _ _ hexec => exact ⟨(exec_effect hexec).rom, exec_same hexec .config (config_not_mem_writes _ _)⟩

/-! The fetch, as the statements write it (R14 to R16). -/

theorem pc_add_one_toNat (a : CodeAddr) : (a + 1).toNat = (a.toNat + 1) % 4096 := BitVec.toNat_add a 1

theorem fetched_eq (s : State) : s.fetched =
    decode s.config (s.rom.read (bankedKey s s.pc.toNat)) (s.rom.read (bankedKey s (s.pc.toNat + 1))) := by
  have second : bankedKey s (s.pc + 1).toNat = bankedKey s (s.pc.toNat + 1) := by
    rw [bankedKey, bankedKey, pc_add_one_toNat, Nat.mod_mod]
  rw [State.fetched, State.firstByte, State.secondByte, State.romRead, State.romRead, romKey_bank, romKey_bank, second]

/-- No interrupt goes first, as the statements write it (R215, D14). -/
theorem interruptFirst_eq_false_iff {s : State} (running : s.halted = false) (d : Bool) : s.interruptFirst d = false ↔
    (s.ie && !s.sub && (s.rtcl || s.tf)) = false ∨ (d = true ∧ s.config.intLatency = .any) := by
  simp only [State.interruptFirst, State.interruptReady, running, Bool.not_false, Bool.true_and, Bool.and_eq_false_iff,
    Bool.not_eq_false', Bool.and_eq_true, decide_eq_true_eq]

/-- Settles O12: of the ways of moving only reset and `OUT PA,A` write PA. -/
theorem portLatchChangesOnlyByOutOrReset : Obligations.PortLatchChangesOnlyByOutOrReset := by
  intro s t hstep
  cases stepTo_of_step hstep with
  | round | wait => exact .inl rfl
  | @reset rest hs => exact .inr (.inl ⟨⟨rest, hs⟩, rfl, rfl⟩)
  | @device m rest _ _ notReset =>
    exact .inl ((effect_deviceMove (withSchedule s rest) notReset).frame .pa (by simp [deviceWrites]))
  | @enter d rest => exact .inl ((effect_takeInterrupt (withSchedule s rest)).frame .pa (by simp))
  | @run d rest i _ hs released running first fetched hexec =>
    by_cases out : i = .outPaA
    · subst out
      refine .inr (.inr ⟨⟨d, rest, hs, released, running, (interruptFirst_eq_false_iff running d).1 first, ?_⟩, ?_⟩)
      · exact (fetched_eq s).symm.trans fetched
      · cases hexec
        rfl
    · exact .inl (exec_same hexec .pa fun written => out (eq_of_pa_mem_writes written))

/-- Settles O17: a reset aside, only an interrupt entry and CALL write the stack, and neither happens while SUB = 1. -/
theorem stackKeptWhileInUse : Obligations.StackKeptWhileInUse := by
  intro s t inUse hstep released
  cases stepTo_of_step hstep with
  | round | wait => exact ⟨rfl, rfl, rfl⟩
  | reset => cases released
  | @device m rest _ _ notReset =>
    have frame := (effect_deviceMove (withSchedule s rest) notReset).frame
    exact ⟨frame .stackPc (by simp [deviceWrites]), frame .stackCf (by simp [deviceWrites]),
      frame .stackByCall (by simp [deviceWrites])⟩
  | enter _ _ first => simp [State.interruptFirst, State.interruptReady, inUse] at first
  | @run _ _ i _ _ _ _ _ _ hexec =>
    have notCall : ∀ a, i ≠ .call a := by
      rintro a rfl
      have free := sub_of_call_next hexec
      cases inUse.symm.trans free
    exact ⟨exec_same hexec .stackPc fun w => (eq_of_stack_mem_writes (.inl w)).elim notCall,
      exec_same hexec .stackCf fun w => (eq_of_stack_mem_writes (.inr (.inl w))).elim notCall,
      exec_same hexec .stackByCall fun w => (eq_of_stack_mem_writes (.inr (.inr w))).elim notCall⟩

/-! The invariant. -/

/-- Data memory stays in canonical form under an effect: it is the same, or one location of it is written. -/
theorem wf_ram_of_effect {a : List Piece} {s t : State} (h : Effect a s t) (wf : s.ram.wf ramSize = true) :
    t.ram.wf ramSize = true := by
  rcases h.ram with same | ⟨a, v, written⟩
  · rw [same]; exact wf
  · rw [written]; exact Memory.wf_write _ v wf a.isLt

theorem wf_ram_step {s t : State} (hstep : step s = .next t) (wf : s.ram.wf ramSize = true) : t.ram.wf ramSize = true := by
  cases stepTo_of_step hstep with
  | round | wait => exact wf
  | reset => exact Memory.wf_tabulate _ _ (Nat.le_refl _)
  | @device m rest _ _ notReset => exact wf_ram_of_effect (effect_deviceMove (withSchedule s rest) notReset) wf
  | @enter d rest => exact wf_ram_of_effect (effect_takeInterrupt (withSchedule s rest)) wf
  | run _ _ _ _ _ hexec => exact wf_ram_of_effect (exec_effect hexec) wf

/-- What reset gives, as a proposition (R32, R251). -/
theorem atReset_iff (s : State) : s.atReset = true ↔ s.pc = 0x000 ∧ s.pa = 0b1011 ∧ s.ton = false ∧ s.tf = false ∧
    s.sndOn = false ∧ s.sndLoop = false ∧ s.ie = false ∧ s.halted = false ∧ s.sub = false := by
  simp [State.atReset, and_assoc]

theorem timerTick_of_stopped {s : State} (h : s.ton = false) : s.timerTick = s :=
  timerTick_idle s (by simp [h])

theorem soundEnd_of_quiet {s : State} (h : s.sndOn = false) : s.soundEnd = s := by
  simp [State.soundEnd, h]

/-- A chip in its reset state is still in it after a device's move: timer and sound stand still, and nothing else counts. -/
theorem atReset_deviceMove {s : State} {m : Move} (notReset : m ≠ .resPin true) (h : s.atReset = true) :
    (s.deviceMove m).atReset = true := by
  obtain ⟨pc, pa, ton, tf, sndOn, sndLoop, ie, halted, sub⟩ := (atReset_iff s).1 h
  cases m with
  | timerTick => rw [State.deviceMove, timerTick_of_stopped ton]; exact h
  | soundEnd => rw [State.deviceMove, soundEnd_of_quiet sndOn]; exact h
  | cpu | lcdScan => exact h
  | rtcEvent => exact (atReset_iff _).2 ⟨pc, pa, ton, tf, sndOn, sndLoop, ie, rfl, sub⟩
  | pins ps pp =>
    obtain ⟨after, running, moved⟩ := setPins_eq s ps pp
    rw [State.deviceMove, moved]
    exact (atReset_iff _).2 ⟨pc, pa, ton, tf, sndOn, sndLoop, ie, running halted, sub⟩
  | resPin low =>
    cases low with
    | true => exact absurd rfl notReset
    | false => exact h

/-- No device but RES going low holds the chip in reset. -/
theorem resetHeld_of_deviceMove {s : State} {m : Move} (notReset : m ≠ .resPin true)
    (held : (s.deviceMove m).resetHeld = true) : s.resetHeld = true := by
  cases m with
  | timerTick => exact ((effect_timerTick s).frame .resetHeld (by simp)).symm.trans held
  | soundEnd => exact ((effect_soundEnd s).frame .resetHeld (by simp)).symm.trans held
  | cpu | lcdScan | rtcEvent | pins => exact held
  | resPin low =>
    cases low with
    | true => exact absurd rfl notReset
    | false => cases held

/-- A chip held in reset after a step is in its reset state, if it was so where it was held before. -/
theorem atReset_step {s t : State} (hstep : step s = .next t) (before : s.resetHeld = true → s.atReset = true)
    (held : t.resetHeld = true) : t.atReset = true := by
  cases stepTo_of_step hstep with
  | round | wait => exact before held
  | reset => rfl
  | @device m rest _ _ notReset =>
    have heldBefore := resetHeld_of_deviceMove (s := withSchedule s rest) notReset held
    exact atReset_deviceMove notReset (before heldBefore)
  | @enter d rest _ released =>
    have kept : _ = s.resetHeld := (effect_takeInterrupt (withSchedule s rest)).frame .resetHeld (by simp)
    cases held.symm.trans (kept.trans released)
  | run _ released _ _ _ hexec =>
    have kept : t.resetHeld = s.resetHeld := exec_same hexec .resetHeld (resetHeld_not_mem_writes _ _)
    cases held.symm.trans (kept.trans released)

/-- Settles O10: data memory by the effects, program memory because it stays, and the reset hold. -/
theorem everyStepKeepsInvariant : Obligations.EveryStepKeepsInvariant := by
  intro s t ⟨ram, rom, held⟩ hstep
  exact ⟨wf_ram_step hstep ram, (stepsKeepProgramMemoryAndConfig s t hstep).1 ▸ rom, atReset_step hstep held⟩

/-- Settles O9: both memories are empty, and RES does not hold the chip. -/
theorem resetStateMeetsInvariant : Obligations.ResetStateMeetsInvariant :=
  ⟨State.reset_memories_wf.1, State.reset_memories_wf.2, nofun⟩

end Sys2Proof.Proofs
end

section
/-! PROOFS. The moves one by one: the CPU's move, and the moves of the devices and of the pins. -/

namespace Sys2Proof.Proofs

open Sys2Proof Sys2Proof.Machine

/-! The CPU's move. -/

theorem runInstruction_ok {s : State} {i : Instr} (h : s.fetched = .ok i) :
    runInstruction s = exec i (s.setPc (s.npc i.length)) := by
  rw [runInstruction, h]

theorem runInstruction_bad {s : State} {e : DecodeError} (h : s.fetched = .bad e) :
    runInstruction s = .refused (refusalOf e) := by
  rw [runInstruction, h]

/-- The CPU moves, running and with no interrupt to enter first: it runs what it fetches, or refuses it. -/
theorem step_of_cpu_run {s : State} {d : Bool} {rest : List Move} (hs : s.schedule = .cpu d :: rest)
    (released : s.resetHeld = false) (running : s.halted = false) (first : s.interruptFirst d = false) :
    (∀ i, s.fetched = .ok i → step s = exec i { s with schedule := rest, pc := s.pc + BitVec.ofNat 12 i.length }) ∧
    (∀ e, s.fetched = .bad e → step s = .refused (refusalOf e)) := by
  have runs : step s = runInstruction (withSchedule s rest) :=
    (step_of_cpu hs).trans (cpuStep_run released running first)
  exact ⟨fun i h => runs.trans (runInstruction_ok h), fun e h => runs.trans (runInstruction_bad h)⟩

/-- Settles O6: the fetch and the interrupt condition as the statement writes them. -/
theorem stepRunsDecodedInstruction : Obligations.StepRunsDecodedInstruction := by
  intro s d rest hs released running noInterrupt
  rw [← fetched_eq]
  exact step_of_cpu_run hs released running ((interruptFirst_eq_false_iff running d).2 noInterrupt)

theorem interruptFirst_of_ready {s : State} {d : Bool} (ready : s.interruptReady = true)
    (atOnce : d = false ∨ s.config.intLatency = .zero) : s.interruptFirst d = true := by
  rcases atOnce with rfl | zero
  · simp [State.interruptFirst, ready]
  · simp [State.interruptFirst, ready, zero]

/-- The CPU moves with an interrupt to enter: it enters it. -/
theorem step_of_cpu_interrupt {s : State} {d : Bool} {rest : List Move} (hs : s.schedule = .cpu d :: rest)
    (released : s.resetHeld = false) (ready : s.interruptReady = true) (atOnce : d = false ∨ s.config.intLatency = .zero) :
    step s = .next (withSchedule s rest).takeInterrupt := by
  obtain ⟨running, -⟩ := (interruptReady_iff s).1 ready
  exact (step_of_cpu hs).trans (cpuStep_interrupt released running (interruptFirst_of_ready ready atOnce))

/-- Settles O7: the entry, by which of the two interrupts is taken. -/
theorem stepTakesInterrupt : Obligations.StepTakesInterrupt := by
  intro s d rest hs released running hie hsub pending atOnce
  have ready : s.interruptReady = true := (interruptReady_iff s).2 ⟨running, hie, hsub, pending⟩
  have frame := frame_comp (frame_schedule s rest) (effect_takeInterrupt (withSchedule s rest)).frame
  refine ⟨_, step_of_cpu_interrupt hs released ready atOnce, frame_mono frame (by simp), ?_⟩
  cases hrtcl : s.rtcl with
  | true =>
    rw [takeInterrupt_rtc (withSchedule s rest) hrtcl]
    exact ⟨rfl, rfl, rfl, rfl, rfl, fun _ => ⟨rfl, rfl, rfl⟩, nofun⟩
  | false =>
    rw [takeInterrupt_timer (withSchedule s rest) hrtcl]
    exact ⟨rfl, rfl, rfl, rfl, rfl, nofun, fun _ => ⟨hrtcl, rfl, rfl⟩⟩

theorem cpuStep_wait {s : State} (h : (s.resetHeld || s.halted) = true) (d : Bool) : cpuStep d s = .next s := by
  simp [cpuStep, h]

/-- Settles O8: the move is taken off, and the CPU waits. -/
theorem waitingCpuChangesNothing : Obligations.WaitingCpuChangesNothing := by
  intro s d rest hs waiting
  have waits : (s.resetHeld || s.halted) = true := (Bool.or_eq_true_iff).2 waiting.symm
  exact (step_of_cpu hs).trans (cpuStep_wait (s := withSchedule s rest) waits d)

/-! The devices. -/

/-- Settles O21: the event's two writes. -/
theorem rtcEventLatchesAndWakes : Obligations.RtcEventLatchesAndWakes := by
  intro s rest hs
  have frame := frame_comp (frame_schedule s rest) (effect_rtcEvent (withSchedule s rest)).frame
  exact ⟨_, step_of_device hs nofun, frame_mono frame (by simp), rfl, rfl, rfl⟩

/-- Settles O23: the one write of a sound's end, by whether a sound plays while the clock runs. -/
theorem soundEndFollowsMode : Obligations.SoundEndFollowsMode := by
  intro s rest hs
  have frame := frame_comp (frame_schedule s rest) (effect_soundEnd (withSchedule s rest)).frame
  refine ⟨_, step_of_device hs nofun, frame_mono frame (by simp), ?_⟩
  rw [State.deviceMove, soundEnd_eq]
  refine ⟨rfl, fun plays running => ?_, fun idle => ?_⟩
  · simp [plays, running]
  · have notPlaying : (s.sndOn && !s.halted) = false := by rcases idle with h | h <;> simp [h]
    simp [notPlaying]

/-! The pins (R232, R236). -/

/-- A pin with its wake-up option falls from high to low: an edge, whatever floating pins read. -/
theorem fallingEdge_of_pin {wake pull : Nibble} {old new : Pins} {k : Fin 4} (enabled : wake.getLsbD k = true)
    (high : old.IsHigh pull k) (low : new.IsLow k) (float float' : Nibble) :
    fallingEdge wake (old.levels pull float) (new.levels pull float') = true :=
  (fallingEdge_iff _ _ _).2 ⟨k, enabled, levels_of_isHigh high float, levels_of_isLow low pull float'⟩

/-- On every pin the option is off, or it was low, or it is high now: no edge. -/
theorem not_fallingEdge_of_pins {wake pull : Nibble} {old new : Pins}
    (h : ∀ k : Fin 4, wake.getLsbD k = false ∨ old.IsLow k ∨ new.IsHigh pull k) (float float' : Nibble) :
    fallingEdge wake (old.levels pull float) (new.levels pull float') = false := by
  refine eq_false_of_ne_true fun edge => ?_
  obtain ⟨k, enabled, high, low⟩ := (fallingEdge_iff _ _ _).1 edge
  rcases h k with off | wasLow | isHigh
  · cases off.symm.trans enabled
  · cases (levels_of_isLow wasLow pull float).symm.trans high
  · cases (levels_of_isHigh isHigh float').symm.trans low

/-- HALTED after the pins move, for some levels of the floating pins before and after. -/
theorem setPins_halted (s : State) (ps pp : Pins) : ∃ f f' g g', (s.setPins ps pp).halted = (s.halted &&
    !(fallingEdge s.config.wakePs (s.ps.levels s.config.pullHighPs f) (ps.levels s.config.pullHighPs f') ||
      fallingEdge s.config.wakePp (s.pp.levels s.config.pullHighPp g) (pp.levels s.config.pullHighPp g'))) :=
  ⟨_, _, _, _, rfl⟩

/-- Settles O22: HALTED by the edges on the two ports. -/
theorem pinsWakeByFallingEdge : Obligations.PinsWakeByFallingEdge := by
  intro s rest ps pp hs
  have frame := frame_comp (frame_schedule s rest) (effect_setPins (withSchedule s rest) ps pp).frame
  obtain ⟨f, f', g, g', halted⟩ := setPins_halted (withSchedule s rest) ps pp
  refine ⟨_, step_of_device hs nofun, frame_mono frame (by simp), rfl, rfl, rfl, fun running => ?running,
    fun edge => ?wakes, fun noEdge => ?stays⟩ <;> refine halted.trans ?_
  case running => simp [running]
  case wakes =>
    obtain ⟨k, ⟨enabled, high, low⟩ | ⟨enabled, high, low⟩⟩ := edge
    · simp [fallingEdge_of_pin enabled high low]
    · simp [fallingEdge_of_pin enabled high low]
  case stays =>
    simp [not_fallingEdge_of_pins fun k => (noEdge k).1, not_fallingEdge_of_pins fun k => (noEdge k).2]

/-! Reset (R250, R251). -/

/-- RES is low and the chip in its reset state: the CPU, the timer, the sound generator and the LCD driver do nothing. -/
theorem runMove_held {s : State} {m : Move} (held : s.resetHeld = true) (h : s.atReset = true) (notRtc : m ≠ .rtcEvent)
    (notPins : ∀ ps pp, m ≠ .pins ps pp) (notRes : ∀ low, m ≠ .resPin low) : runMove m s = .next s := by
  obtain ⟨-, -, ton, -, sndOn, -⟩ := (atReset_iff s).1 h
  cases m with
  | cpu d => exact cpuStep_wait (by simp [held]) d
  | timerTick => exact congrArg Host.Outcome.next (timerTick_of_stopped ton)
  | soundEnd => exact congrArg Host.Outcome.next (soundEnd_of_quiet sndOn)
  | lcdScan => rfl
  | rtcEvent => exact absurd rfl notRtc
  | pins ps pp => exact absurd rfl (notPins ps pp)
  | resPin low => exact absurd rfl (notRes low)

/-- From the reset state the first byte fetched is that at 1000H: PC is 000H, and PA selects bank 1. -/
theorem firstByte_of_atReset {s : State} (h : s.atReset = true) : s.firstByte = s.rom.read 0x1000 := by
  obtain ⟨pc, pa, -⟩ := (atReset_iff s).1 h
  rw [State.firstByte, State.romRead, State.bank, pc, pa]
  rfl

/-- Settles O25: RES low, the hold, and RES high. -/
theorem resetPinGivesResetState : Obligations.ResetPinGivesResetState := by
  refine ⟨fun s rest hs => ?low, fun s m => runMove_held, fun s held h => ?rtc, fun s rest hs => ?high,
    fun s => firstByte_of_atReset⟩
  case low =>
    have lcdOff : (0b1011#4).getLsbD 2 = false := by decide
    exact ⟨_, step_of_device hs nofun, rfl, rfl, rfl, rfl, rfl, rfl, rfl, rfl, rfl, rfl, rfl, rfl, lcdOff, rfl, rfl, rfl,
      rfl, rfl, rfl⟩
  case rtc =>
    obtain ⟨-, -, -, -, -, -, -, halted, -⟩ := (atReset_iff s).1 h
    refine congrArg Host.Outcome.next ?_
    rw [State.deviceMove, rtcEvent_eq, ← halted]
  case high => exact step_of_device hs nofun

/-- Settles O26: the values of `State.reset`, and what the output stages make of PA = 1011b. -/
theorem stateAfterReset : Obligations.StateAfterReset := by
  refine ⟨rfl, rfl, rfl, rfl, rfl, rfl, rfl, rfl, rfl, rfl, rfl, rfl, rfl, rfl, rfl, fun c => ?_⟩
  obtain ⟨cmos0, openDrain0⟩ := outputLevel_true (t := c.pa0Type) (show (0b1011#4).getLsbD 0 = true by decide)
  obtain ⟨cmos1, openDrain1⟩ := outputLevel_true (t := c.pa1Type) (show (0b1011#4).getLsbD 1 = true by decide)
  exact ⟨cmos0, openDrain0, cmos1, openDrain1⟩

/-! The LCD driver (R234, R235). -/

/-- Settles O59: the driver's move, and the display area while the output is on. -/
theorem displayDriverReadsDisplayArea : Obligations.DisplayDriverReadsDisplayArea := by
  refine ⟨fun s rest hs => step_of_device hs nofun, fun s => ⟨fun on => ?shown, fun off => ?dark⟩⟩
  case shown =>
    refine ⟨_, if_pos on, by simp [displaySize], fun a ha => ?_⟩
    have place : a.toNat - 0x9C < displaySize := by
      have := a.isLt
      simp only [displaySize]
      omega
    rw [List.getElem?_map, List.getElem?_range place, Option.map_some, displayBase, Nat.add_sub_cancel' ha]
    rfl
  case dark => exact if_neg (Bool.eq_false_iff.1 off)

end Sys2Proof.Proofs
end

section
/-! PROOFS. Runs: the stack along an interrupt routine, the ticks of a preset timer, the wake-up by the RTC, and weak fairness
(spec/60_exceptions.md R217 to R241). -/

namespace Sys2Proof.Proofs

open Sys2Proof Sys2Proof.Machine

theorem nextOf_eq_some {o : Host.Outcome State Fault Refusal} {t : State} (h : nextOf o = some t) : o = .next t := by
  cases o with
  | next s => exact congrArg Host.Outcome.next (Option.some.inj h)
  | fault | refused => cases h

/-- A step first, and then the rest of the run. -/
theorem runFor_succ_of_step {s t : State} (h : step s = .next t) (n : Nat) : runFor (n + 1) s = runFor n t := by
  rw [runFor, h, nextOf, Option.bind_some]

theorem step_of_runFor_succ {s u : State} {n : Nat} (h : runFor (n + 1) s = some u) :
    ∃ t, step s = .next t ∧ runFor n t = some u := by
  obtain ⟨t, first, rest⟩ := Option.bind_eq_some_iff.1 h
  exact ⟨t, nextOf_eq_some first, rest⟩

/-! Interrupt routines. -/

/-- Along a run during which SUB stays 1 and RES does not act, the stack stays. -/
theorem stack_kept_of_runFor {n : Nat} {s u : State} (h : runFor n s = some u)
    (inUse : ∀ k v, k ≤ n → runFor k s = some v → v.sub = true ∧ v.resetHeld = false) :
    u.stackPc = s.stackPc ∧ u.stackCf = s.stackCf ∧ u.stackByCall = s.stackByCall := by
  induction n generalizing s with
  | zero =>
    cases h
    exact ⟨rfl, rfl, rfl⟩
  | succ n ih =>
    obtain ⟨t, first, rest⟩ := step_of_runFor_succ h
    obtain ⟨hsub, -⟩ := inUse 0 s (Nat.zero_le _) rfl
    obtain ⟨-, released⟩ := inUse 1 t (Nat.succ_le_succ (Nat.zero_le n)) (runFor_succ_of_step first 0)
    obtain ⟨pc, cf, byCall⟩ := stackKeptWhileInUse s t hsub first released
    obtain ⟨pc', cf', byCall'⟩ := ih rest fun k v hk hv =>
      inUse (k + 1) v (Nat.succ_le_succ hk) ((runFor_succ_of_step first k).trans hv)
    exact ⟨pc'.trans pc, cf'.trans cf, byCall'.trans byCall⟩

theorem takeInterrupt_stack (s : State) :
    s.takeInterrupt.stackPc = s.pc ∧ s.takeInterrupt.stackCf = s.cf ∧ s.takeInterrupt.stackByCall = false := by
  cases h : s.rtcl with
  | true => rw [takeInterrupt_rtc s h]; exact ⟨rfl, rfl, rfl⟩
  | false => rw [takeInterrupt_timer s h]; exact ⟨rfl, rfl, rfl⟩

/-- Settles O18: the entry puts PC and CF on the stack, the routine keeps them there, and RETI takes them back. -/
theorem routineReturnsToInterruptedProgram : Obligations.RoutineReturnsToInterruptedProgram := by
  intro s u n _ hrun inUse
  obtain ⟨pushedPc, pushedCf, byInterrupt⟩ := takeInterrupt_stack s
  obtain ⟨keptPc, keptCf, keptBy⟩ := stack_kept_of_runFor hrun inUse
  obtain ⟨t, ⟨returns, -⟩, pc, free, cf⟩ := completes_reti (inUse n u (Nat.le_refl n) hrun).1
  obtain ⟨restored, -⟩ := cf (keptBy.trans byInterrupt)
  exact ⟨t, returns, pc.trans (keptPc.trans pushedPc), restored.trans (keptCf.trans pushedCf), free⟩

/-! The preset timer. -/

/-- Settles O20, by induction on the ticks still to come: the last one overflows, and each before it counts. -/
theorem presetTimerOverflowsAfterItsTicks : Obligations.PresetTimerOverflowsAfterItsTicks := by
  intro s k hk
  induction k, hk using Nat.le_induction generalizing s with
  | base =>
    intro _ on running clear preset hs
    have atEnd : s.timer = 0xFF := BitVec.eq_of_toNat_eq preset
    refine ⟨⟨_, runFor_succ_of_step (step_timerTick_overflow hs on running atEnd) 0, rfl, rfl⟩, fun j hj => ?_⟩
    obtain rfl := Nat.lt_one_iff.1 hj
    exact ⟨s, rfl, clear⟩
  | succ k hk ih =>
    intro hmax on running clear preset hs
    have notAtEnd : s.timer ≠ 0xFF := by
      intro atEnd
      rw [atEnd] at preset
      have : (0xFF : Byte).toNat = 255 := rfl
      omega
    have counts := step_timerTick_count (rest := List.replicate k .timerTick) hs on running notAtEnd
    have value : (s.timer + 1).toNat = (256 - k) % 256 := by
      rw [byte_add_one_toNat notAtEnd]
      omega
    obtain ⟨⟨t, overflow, timer, tf⟩, before⟩ :=
      ih { s with timer := s.timer + 1, schedule := List.replicate k .timerTick } (by omega) on running clear value rfl
    refine ⟨⟨t, (runFor_succ_of_step counts k).trans overflow, timer, tf⟩, fun j hj => ?_⟩
    cases j with
    | zero => exact ⟨s, rfl, clear⟩
    | succ j =>
      obtain ⟨u, run, clearAt⟩ := before j (Nat.lt_of_succ_lt_succ hj)
      exact ⟨u, (runFor_succ_of_step counts j).trans run, clearAt⟩

/-! Waking by the RTC. -/

/-- `s` after an RTC event, with the moves `rest` still to come. -/
abbrev afterEvent (s : State) (rest : List Move) : State := (withSchedule s rest).rtcEvent

/-- Settles O24: the event wakes the chip, and the CPU's move then enters the interrupt or runs on. -/
theorem rtcWakeEntersOrContinues : Obligations.RtcWakeEntersOrContinues := by
  intro s d rest _ released hs
  have event : step s = .next (afterEvent s (.cpu d :: rest)) := step_of_device hs nofun
  refine ⟨fun hie hsub atOnce => ?enters, fun held => ?continues⟩
  case enters =>
    have ready : (afterEvent s (.cpu d :: rest)).interruptReady = true :=
      (interruptReady_iff _).2 ⟨rfl, hie, hsub, .inl rfl⟩
    have entry := step_of_cpu_interrupt (s := afterEvent s (.cpu d :: rest)) rfl released ready atOnce
    exact ⟨_, (runFor_succ_of_step event 1).trans (runFor_succ_of_step entry 0), rfl, rfl, rfl, rfl, rfl, rfl⟩
  case continues =>
    have notFirst : (afterEvent s (.cpu d :: rest)).interruptFirst d = false := by
      refine (interruptFirst_eq_false_iff rfl d).2 ?_
      rcases held with off | nested | later
      · exact .inl (by simp [rtcEvent_eq, off])
      · exact .inl (by simp [rtcEvent_eq, nested])
      · exact .inr later
    exact ⟨_, runFor_succ_of_step event 0, rfl, rfl, rfl, rfl, step_of_cpu_run rfl released rfl notFirst⟩

/-! Weak fairness (R240). -/

/-- The run from `s` never stops. -/
def Runs (s : State) : Prop := ∀ n, ∃ u, runFor n s = some u

/-- The run from `s` comes to `u`. -/
def Reaches (s u : State) : Prop := ∃ n, runFor n s = some u

theorem reaches_of_step {s t u : State} (h : step s = .next t) (rest : Reaches t u) : Reaches s u := by
  obtain ⟨n, hn⟩ := rest
  exact ⟨n + 1, (runFor_succ_of_step h n).trans hn⟩

theorem Runs.next {s : State} (h : Runs s) : ∃ t, step s = .next t ∧ Runs t := by
  obtain ⟨u, hu⟩ := h 1
  obtain ⟨t, first, -⟩ := step_of_runFor_succ hu
  exact ⟨t, first, fun n => (h (n + 1)).imp fun v hv => (runFor_succ_of_step first n).symm.trans hv⟩

/-- A step that moves an agent takes its move off the schedule and leaves the others. -/
theorem schedule_of_step {s t : State} {m : Move} {rest : List Move} (hstep : step s = .next t)
    (hs : s.schedule = m :: rest) : t.schedule = rest := by
  have same : ∀ {m' rest'}, s.schedule = m' :: rest' → rest' = rest := fun h => (List.cons.inj (h.symm.trans hs)).2
  cases stepTo_of_step hstep with
  | round h => cases h.symm.trans hs
  | reset h | wait h => exact same h
  | @device _ rest' h _ notReset =>
    exact ((effect_deviceMove (withSchedule s rest') notReset).frame .schedule (by simp [deviceWrites])).trans (same h)
  | @enter _ rest' h =>
    exact ((effect_takeInterrupt (withSchedule s rest')).frame .schedule (by simp)).trans (same h)
  | run h _ _ _ _ hexec =>
    exact (exec_same hexec .schedule (schedule_not_mem_writes _ _)).trans (same h)

/-- A run that never stops uses up any first part of the schedule. -/
theorem Runs.reaches_suffix {b : List Move} (a : List Move) {s : State} (h : Runs s) (hs : s.schedule = a ++ b) :
    ∃ u, Reaches s u ∧ Runs u ∧ u.schedule = b := by
  induction a generalizing s with
  | nil => exact ⟨s, ⟨0, rfl⟩, h, hs⟩
  | cons m a ih =>
    obtain ⟨t, first, runs⟩ := h.next
    obtain ⟨u, reaches, rest⟩ := ih runs (schedule_of_step first hs)
    exact ⟨u, reaches_of_step first reaches, rest⟩

theorem reaches_trans {s t u : State} (h : Reaches s t) (h' : Reaches t u) : Reaches s u := by
  obtain ⟨n, hn⟩ := h
  induction n generalizing s with
  | zero => cases hn; exact h'
  | succ n ih =>
    obtain ⟨v, first, rest⟩ := step_of_runFor_succ hn
    exact reaches_of_step first (ih rest)

/-- A run that never stops comes to a round, and so to every last part of one. -/
theorem Runs.reaches_round {s : State} (h : Runs s) : ∃ u v, Reaches s u ∧ Runs u ∧ u.schedule = State.round v := by
  obtain ⟨v, toEmpty, runs, empty⟩ := h.reaches_suffix (b := []) s.schedule (List.append_nil _).symm
  obtain ⟨t, first, runs'⟩ := runs.next
  have drawn : t = v.nextRound := by
    cases first.symm.trans (step_of_empty empty)
    rfl
  exact ⟨t, v, reaches_trans toEmpty (reaches_of_step first ⟨0, rfl⟩), runs', by rw [drawn]; rfl⟩

/-- Settles O60: the round drawn, and then its moves one by one up to the timer's, the RTC's and the CPU's. -/
theorem agentsMoveUnderWeakFairness : Obligations.AgentsMoveUnderWeakFairness := by
  refine ⟨fun s hs => ?draws, fun s runs => ?moves⟩
  case draws =>
    obtain ⟨a, b, c, d, round⟩ := round_eq s
    have schedule : s.nextRound.schedule = _ := round
    refine ⟨_, step_of_empty hs, frame_mono (effect_nextRound s).frame (by simp), ?_, ?_, d, ?_⟩ <;> simp [schedule]
  case moves =>
    obtain ⟨u, v, toRound, runs', hu⟩ := Runs.reaches_round runs
    obtain ⟨a, b, c, d, round⟩ := round_eq v
    rw [round] at hu
    obtain ⟨t1, toTimer, runs1, timer⟩ := runs'.reaches_suffix a hu
    obtain ⟨t2, toRtc, runs2, rtc⟩ := runs1.reaches_suffix (.timerTick :: b) timer
    obtain ⟨t3, toCpu, -, cpu⟩ := runs2.reaches_suffix (.rtcEvent :: c) rtc
    obtain ⟨n1, run1⟩ := reaches_trans toRound toTimer
    obtain ⟨n2, run2⟩ := reaches_trans ⟨n1, run1⟩ toRtc
    obtain ⟨n3, run3⟩ := reaches_trans ⟨n2, run2⟩ toCpu
    have event : step t2 = .next _ := step_of_device rtc nofun
    obtain ⟨n4, run4⟩ := reaches_trans ⟨n2, run2⟩ (reaches_of_step event ⟨0, rfl⟩)
    exact ⟨⟨n1, t1, _, run1, timer⟩, ⟨n2, t2, _, run2, rtc⟩, ⟨n3, t3, d, _, run3, cpu⟩, ⟨n4, _, run4, rfl⟩⟩

end Sys2Proof.Proofs
end

section
/-! PROOFS. The canonical form of a memory: what every address reads as determines the list. -/

namespace Sys2Proof.Proofs

open Sys2Proof Sys2Proof.Machine

variable {w size : Nat}

theorem wfFrom_cons {lo k : Nat} {v : BitVec w} {m : Memory w} (h : Memory.wfFrom size lo ((k, v) :: m) = true) :
    lo ≤ k ∧ v ≠ Memory.unlisted ∧ Memory.wfFrom size (k + 1) m = true := by
  simp only [Memory.wfFrom, Bool.and_eq_true, decide_eq_true_eq, Bool.not_eq_true', decide_eq_false_iff_not] at h
  obtain ⟨⟨⟨hlo, -⟩, listed⟩, rest⟩ := h
  exact ⟨hlo, listed, rest⟩

/-- Below its first address a memory in canonical form lists nothing. -/
theorem read_of_lt {lo a : Nat} {m : Memory w} (h : m.wfFrom size lo = true) (ha : a < lo) :
    m.read a = Memory.unlisted := by
  induction m generalizing lo with
  | nil => rfl
  | cons e m ih =>
    obtain ⟨k, v⟩ := e
    obtain ⟨hlo, -, rest⟩ := wfFrom_cons h
    rw [Memory.read, if_neg (by omega)]
    exact ih rest (by omega)

theorem read_head (k : Nat) (v : BitVec w) (m : Memory w) : Memory.read ((k, v) :: m) k = v := if_pos rfl

/-- A memory in canonical form that reads nowhere as listed is empty. -/
theorem eq_nil_of_read {lo : Nat} {m : Memory w} (h : m.wfFrom size lo = true) (reads : ∀ a, m.read a = Memory.unlisted) :
    m = [] := by
  cases m with
  | nil => rfl
  | cons e m =>
    obtain ⟨k, v⟩ := e
    exact absurd ((read_head k v m).symm.trans (reads k)) (wfFrom_cons h).2.1

/-- The first address of a memory reads as listed; so no other memory that reads alike begins later. -/
theorem head_le {lo k k' : Nat} {v v' : BitVec w} {m m' : Memory w} (h : Memory.wfFrom size lo ((k, v) :: m) = true)
    (h' : Memory.wfFrom size lo ((k', v') :: m') = true)
    (reads : ∀ a, Memory.read ((k, v) :: m) a = Memory.read ((k', v') :: m') a) : k' ≤ k := by
  obtain ⟨-, listed, -⟩ := wfFrom_cons h
  obtain ⟨-, -, rest'⟩ := wfFrom_cons h'
  refine Nat.not_lt.1 fun hlt => listed ?_
  have unlisted : Memory.read ((k', v') :: m') k = Memory.unlisted := by
    rw [Memory.read, if_neg (by omega)]
    exact read_of_lt rest' (by omega)
  exact (read_head k v m).symm.trans ((reads k).trans unlisted)

theorem eq_of_reads_eq {lo : Nat} {m m' : Memory w} (h : m.wfFrom size lo = true) (h' : m'.wfFrom size lo = true)
    (reads : ∀ a, m.read a = m'.read a) : m = m' := by
  induction m generalizing lo m' with
  | nil => exact (eq_nil_of_read h' fun a => (reads a).symm).symm
  | cons e m ih =>
    cases m' with
    | nil => exact eq_nil_of_read h reads
    | cons e' m' =>
      obtain ⟨k, v⟩ := e
      obtain ⟨k', v'⟩ := e'
      obtain rfl : k = k' := Nat.le_antisymm (head_le h' h fun a => (reads a).symm) (head_le h h' reads)
      obtain rfl : v = v' := by rw [← read_head k v m, reads k, read_head]
      obtain ⟨-, -, rest⟩ := wfFrom_cons h
      obtain ⟨-, -, rest'⟩ := wfFrom_cons h'
      refine congrArg ((k, v) :: ·) (ih rest rest' fun a => ?_)
      by_cases ha : a = k
      · rw [ha, read_of_lt rest (Nat.lt_succ_self k), read_of_lt rest' (Nat.lt_succ_self k)]
      · simpa only [Memory.read, if_neg ha] using reads a

/-- Settles O27: the canonical form begins at address 0. -/
theorem equalReadsMeanEqualMemories : Obligations.EqualReadsMeanEqualMemories :=
  fun _ _ _ _ h h' reads => eq_of_reads_eq h h' reads

end Sys2Proof.Proofs
end
